-- ==== Sys2Proof/Word.lean ====
section
/-! DEFINITION. Word.lean: the plain types of the JZ448 model (bytes, words, the numbers of ports, windows, tags and
transaction identifiers), the table type that holds a fixed number of like records, and sets of masters. -/

namespace Sys2Proof

/-- One byte of frame data. -/
abbrev Byte := BitVec 8

/-- A word of the control page, an argument word or an address: 32 bits (00_scope.md, Words). -/
abbrev Word := BitVec 32

/-- A master's number, M0 to M3 (00_scope.md, The part at a glance). -/
abbrev MasterId := Fin 4

/-- A target's number, T0 to T3 (00_scope.md, The part at a glance). -/
abbrev TargetId := Fin 4

/-- A window's number, W0 to W47 (R1). -/
abbrev WindowId := Fin 48

/-- A master's tag, 0 to 15 (R148). -/
abbrev Tag := Fin 16

/-- A target port's transaction identifier, 0 to 15 (R81). -/
abbrev Xid := Fin 16

/-- A table of `n` like records, one for each number below `n`. -/
structure Table (n : Nat) (α : Type) where
  cells : Vector α n
deriving DecidableEq, Repr

/-- The record numbered `i`. -/
def Table.get {n : Nat} {α : Type} (t : Table n α) (i : Fin n) : α := t.cells[i]

/-- The table with the record numbered `i` replaced. -/
def Table.put {n : Nat} {α : Type} (t : Table n α) (i : Fin n) (x : α) : Table n α :=
  ⟨t.cells.set i.val x i.isLt⟩

/-- The table with the same record everywhere. -/
def Table.fill (n : Nat) {α : Type} (x : α) : Table n α := ⟨Vector.replicate n x⟩

/-- The table whose record numbered `i` is `f i`. -/
def Table.ofFn {n : Nat} {α : Type} (f : Fin n → α) : Table n α := ⟨Vector.ofFn f⟩

/-- Every record changed by `f`. -/
def Table.each {n : Nat} {α β : Type} (t : Table n α) (f : α → β) : Table n β := Table.ofFn fun i => f (t.get i)

/-- A set of masters, a subset of M0 to M3: the entry numbered `m` says whether Mm is in it. -/
abbrev MasterSet := Table 4 Bool

/-- The empty set of masters. -/
def MasterSet.empty : MasterSet := Table.fill 4 false

/-- The set with `m` added. -/
def MasterSet.insert (a : MasterSet) (m : MasterId) : MasterSet := a.put m true

/-- The set with `m` removed. -/
def MasterSet.erase (a : MasterSet) (m : MasterId) : MasterSet := a.put m false

/-- M0 to M3, in rising number. -/
def allMasters : List MasterId := [0, 1, 2, 3]

/-- T0 to T3, in rising number. -/
def allTargets : List TargetId := [0, 1, 2, 3]

/-- W0 to W47, in rising index. -/
def allWindows : List WindowId := List.finRange 48

/-- The xids 0 to 15, in rising order. -/
def allXids : List Xid := List.finRange 16

/-- The members of a set of masters, in rising number. -/
def MasterSet.members (a : MasterSet) : List MasterId := allMasters.filter a.get

end Sys2Proof
end

