-- ==== Sys2Proof/Config.lean ====
section
/-! DEFINITION. Config.lean: the figures of the part (00_scope.md, Numbers) and the reset values that have a number
of their own. The spec leaves no value of the JZ448 open, so there is no free value here; what it does leave open is an
order or a convention, and each stands in the assumption log. -/

namespace Sys2Proof.Config

/-- The lowest address of the control page, 0xFFFF_F000 (R24). -/
def controlPageBase : Nat := 0xFFFFF000

/-- The bytes of the control page, 4 KiB (R24). -/
def controlPageSize : Nat := 0x1000

/-- One more than the highest address of the 32-bit address space. -/
def addressSpace : Nat := 0x100000000

/-- The smallest size_log2 of a window, 12: 4 KiB (R1). -/
def minSizeLog2 : Nat := 12

/-- The greatest size_log2 of a window, 31: 2 GiB (R1). -/
def maxSizeLog2 : Nat := 31

/-- The greatest in-flight count of a window, 64 (R17). -/
def maxInFlight : Nat := 64

/-- The slots of the claim pool, 24 (R63). -/
def poolSlots : Nat := 24

/-- The greatest lease duration in ticks, 4095 (R45). -/
def maxDuration : Nat := 4095

/-- The greatest warn_at in ticks, 4094 (R45). -/
def maxWarnAt : Nat := 4094

/-- The wait limit that means no limit, 4095 (R65). -/
def noWaitLimit : Nat := 4095

/-- The greatest renewal ceiling and the value at which the renewal count saturates, 15 (R1, R45). -/
def maxRenewals : Nat := 15

/-- The requests an inbound queue holds, 8 (R148). -/
def inboundPlaces : Nat := 8

/-- The real notices an event queue holds, 15; the sixteenth place is OVERFLOW's alone (R141). -/
def realNotices : Nat := 15

/-- The value at which an OVERFLOW count saturates, 65535 (R141). -/
def maxOverflow : Nat := 65535

/-- The value at which an age, a consecutive count and a stray count saturate, 255 (R78, R82). -/
def maxCount : Nat := 255

/-- The greatest tick scale, 15 (R42). -/
def maxScale : Nat := 15

/-- The greatest tick divider, 256 (R42). -/
def maxDivider : Nat := 256

/-- The tick scale after device reset, 10 (R42). -/
def resetScale : Nat := 10

/-- The tick divider after device reset, 125 (R42). -/
def resetDivider : Nat := 125

/-- The response timeout after device reset, 64 ticks (R78). -/
def resetTimeout : Nat := 64

/-- The greatest response timeout, 255 ticks (R78). -/
def maxTimeout : Nat := 255

/-- The fault threshold after device reset, 4 (R78). -/
def resetThreshold : Nat := 4

/-- The greatest fault threshold, 15 (R78). -/
def maxThreshold : Nat := 15

end Sys2Proof.Config
end

