-- ==== Sys2Proof/Syntax.lean ====
section
/-! DEFINITION. Syntax.lean: the commands of the part, one constructor of `Instr` for each row of the table of operations
and events, with what the sender of the command chooses: the port, the frame, or the record it reaches. -/

namespace Sys2Proof

/-- The direction of a request (R82, 11.5). -/
inductive Kind where
  | read
  | write
deriving DecidableEq, Repr

/-- A request frame from a master (11.5). The length stands as the frame carries it, in range or not (R152). -/
structure RequestFrame where
  tag : Tag
  kind : Kind
  address : Word
  length : Nat
  data : List Byte
deriving DecidableEq, Repr

/-- The status of a target's answer (R87). -/
inductive AnswerStatus where
  | ok
  | error
deriving DecidableEq, Repr

/-- A completion frame from a target (R87, 11.5). -/
structure AnswerFrame where
  xid : Xid
  status : AnswerStatus
  data : List Byte
deriving DecidableEq, Repr

/-- The blocks that a tick reaches (R43). -/
inductive TickBlock where
  /-- The lease manager. -/
  | leases
  /-- A target port. -/
  | target (t : TargetId)
deriving DecidableEq, Repr

/-- The happenings that one tick is made of (R43): its emission, its arrival at each block, and the single countdowns and counts
that it then owes there, each a happening of its own (R50, R68, R89). -/
inductive TickPart where
  /-- The time base emits the tick (R42). -/
  | emit
  /-- The tick arrives at a block (R43). -/
  | arrive (b : TickBlock)
  /-- The countdown of the lease on a window (R50). -/
  | lease (w : WindowId)
  /-- The countdown of a master's waiting claim for a window (R68). -/
  | claim (w : WindowId) (m : MasterId)
  /-- The count of one outstanding record of a target port (R89). -/
  | age (t : TargetId) (x : Xid)
deriving DecidableEq, Repr

/-- The commands: one constructor for each row of spec/opcode_table.json, in its order. A command a master issues through
its command slot (DEFINE_WINDOW and the like) carries no operand here: the row is the happening in which the owning block
takes the command that the engine has delivered, and its arguments are the argument words it was issued with (R130, R134). -/
inductive Instr where
  | deviceReset
  | rstNRelease
  | tick (part : TickPart)
  | expired (w : WindowId)
  | handoff (w : WindowId)
  | claimLapsed (w : WindowId) (m : MasterId)
  | timeout (t : TargetId) (x : Xid)
  | requestFrame (m : MasterId) (f : RequestFrame)
  | portReset (m : MasterId)
  | linkDrop (m : MasterId)
  | masterLinkTrains (m : MasterId)
  | cleanupEnginePart (m : MasterId)
  | cleanupNoticePart (m : MasterId)
  | cleanupLeasePart (m : MasterId)
  | cleanupWindowPart (m : MasterId)
  | cleanupTargetPart (m : MasterId) (t : TargetId)
  | steeringDecision (m : MasterId)
  | eventPortRead (m : MasterId)
  | noticeMaskWrite (m : MasterId)
  | controlPageWrite (m : MasterId)
  | commandTake
  | defineWindow
  | setRoute
  | setAccess
  | enableWindow
  | disableWindow
  | retireWindow
  | windowRetired (w : WindowId)
  | setDefault
  | queryWindow
  | claim
  | renew
  | release
  | withdraw
  | revoke
  | setTick
  | setTarget
  | queryTarget
  | fenceTarget
  | unfenceTarget
  | fenceDone (t : TargetId)
  | xidGrant (t : TargetId)
  | mirrorXidGrant (t : TargetId)
  | targetCompletion (t : TargetId) (f : AnswerFrame)
  | targetLinkDown (t : TargetId)
  | targetLinkTrains (t : TargetId)
deriving DecidableEq, Repr

end Sys2Proof
end

