-- ==== Sys2Proof/WellFormed.lean ====
section
/-! DEFINITION. WellFormed.lean: when a command is one that a sender keeping the frame formats of 11.5 could send. The part
gives the ill-formed ones a meaning too (MALFORMED, R152; a stray, R92). -/

namespace Sys2Proof

/-- R152, first check: the length is 1 to 64 bytes. -/
def RequestFrame.lengthOk (f : RequestFrame) : Bool := decide (1 ≤ f.length) && decide (f.length ≤ 64)

/-- R152, second check: the first and last bytes lie in the same aligned 64-byte block. -/
def RequestFrame.withinBlock (f : RequestFrame) : Bool := decide (f.address.toNat % 64 + f.length ≤ 64)

/-- R152, third and fourth checks: a write carries exactly its length of data, a read carries none. -/
def RequestFrame.dataOk (f : RequestFrame) : Bool :=
  match f.kind with
  | .write => decide (f.data.length = f.length)
  | .read => f.data.isEmpty

/-- A request frame that breaks none of the request rules of R152. -/
def RequestFrame.wellFormed (f : RequestFrame) : Bool := f.lengthOk && f.withinBlock && f.dataOk

/-- A target's completion frame in the format of 11.5: data for an OK answer only, at most the greatest request length. -/
def AnswerFrame.wellFormed (f : AnswerFrame) : Bool :=
  match f.status with
  | .ok => decide (f.data.length ≤ 64)
  | .error => f.data.isEmpty

/-- A command whose frame, if it has one, keeps its format. -/
def Instr.wellFormed (i : Instr) : Bool :=
  match i with
  | .requestFrame _ f => f.wellFormed
  | .targetCompletion _ f => f.wellFormed
  | .deviceReset | .rstNRelease | .tick _ | .expired _ | .handoff _ | .claimLapsed _ _ | .timeout _ _ | .portReset _
  | .linkDrop _ | .masterLinkTrains _ | .cleanupEnginePart _ | .cleanupNoticePart _ | .cleanupLeasePart _
  | .cleanupWindowPart _ | .cleanupTargetPart _ _ | .steeringDecision _ | .eventPortRead _ | .noticeMaskWrite _
  | .controlPageWrite _ | .commandTake | .defineWindow | .setRoute | .setAccess | .enableWindow | .disableWindow
  | .retireWindow | .windowRetired _ | .setDefault | .queryWindow | .claim | .renew | .release | .withdraw | .revoke
  | .setTick | .setTarget | .queryTarget | .fenceTarget | .unfenceTarget | .fenceDone _ | .xidGrant _ | .mirrorXidGrant _
  | .targetLinkDown _ | .targetLinkTrains _ => true

end Sys2Proof
end

