-- ==== Sys2Proof/Decode.lean ====
section
/-! DEFINITION. Decode.lean: the command that a word spells by the bits of spec/opcode_table.json. The JZ448's table gives no
row any bits, since its operations are frames, link events and happenings inside the part, so no word spells a command. The
codes of the commands a master issues through its slot are read in Machine/Operands.lean (R164). -/

namespace Sys2Proof

/-- The command spelled by the lowest `nbits` bits of `w`: none, since the table gives no row any bits. -/
def decodeTableWord (_nbits _w : Nat) : Option Instr := none

end Sys2Proof
end

