-- ==== Sys2Proof/Machine/State.lean ====
section
/-! DEFINITION. Machine/State.lean: all the state the spec gives the JZ448, as plain data, and its values after device
reset. Each record stands under the chapter of the block that owns it (00_scope.md, Shared state and its owners). A field or a
constructor that is the model's own, and not the spec's, says so and names its log entry. -/

namespace Sys2Proof.Machine

/-! ### The window table (chapter 1) -/

/-- The lifecycle state of a window (R5). -/
inductive WindowState where
  | free
  | defined
  | active
  | retiring
deriving DecidableEq, Repr

/-- A window's read route (R3). -/
inductive ReadRoute where
  | deny
  | fill
  | target (t : TargetId) (base : Word)
deriving DecidableEq, Repr

/-- A window's write route (R3); leg 1 of a mirror, to `t1`, is the primary. -/
inductive WriteRoute where
  | deny
  | discard
  | target (t : TargetId) (base : Word)
  | mirror (t1 : TargetId) (base1 : Word) (t2 : TargetId) (base2 : Word)
deriving DecidableEq, Repr

/-- A default route (R15). -/
inductive DefaultRoute where
  | deny
  | target (t : TargetId)
deriving DecidableEq, Repr

/-- Whether and how leases govern a window (R4). -/
inductive LeasePolicy where
  | none
  | sharedUntilHeld
  | holdToWrite
deriving DecidableEq, Repr

/-- One window record (R1). -/
structure WindowRecord where
  state : WindowState
  base : Word
  sizeLog2 : Nat
  tier : Nat
  readRoute : ReadRoute
  writeRoute : WriteRoute
  readSet : MasterSet
  writeSet : MasterSet
  policy : LeasePolicy
  contention : Bool
  ceiling : Nat
  retiringMaster : Option MasterId
  inFlight : Nat
deriving DecidableEq, Repr

/-- The record of a window in FREE: every field at its FREE value (R1). -/
def WindowRecord.freeRecord : WindowRecord where
  state := .free
  base := 0
  sizeLog2 := 0
  tier := 0
  readRoute := .deny
  writeRoute := .deny
  readSet := MasterSet.empty
  writeSet := MasterSet.empty
  policy := .none
  contention := false
  ceiling := 0
  retiringMaster := none
  inFlight := 0

/-! ### The lease manager and the time base (chapters 3 and 4) -/

/-- The kind of a lease (R46). -/
inductive LeaseKind where
  | sole
  | write
deriving DecidableEq, Repr

/-- A lease record (R45); its window is its place in the table of leases. `owed` is how the model keeps R43: the countdown of
the tick that has arrived is still to be taken (log 5). -/
structure Lease where
  holder : MasterId
  kind : LeaseKind
  duration : Nat
  remaining : Nat
  warnAt : Nat
  warned : Bool
  renewals : Nat
  reported : MasterSet
  owed : Bool
deriving DecidableEq, Repr

/-- A waiting claim, in a slot of the claim pool (R63). `owed` is as in `Lease`. -/
structure WaitingClaim where
  window : WindowId
  claimant : MasterId
  kind : LeaseKind
  duration : Nat
  warnAt : Nat
  waitRemaining : Option Nat
  owed : Bool
deriving DecidableEq, Repr

/-- For each block that a tick reaches, how many ticks have been emitted that have still to arrive there (R43; the model's own
field, log 5). -/
structure TicksDue where
  leases : Nat
  targets : Table 4 Nat
deriving DecidableEq, Repr

/-- No tick is on its way to any block. -/
def TicksDue.none : TicksDue := ⟨0, Table.fill 4 0⟩

/-- The time base (R42), with the ticks it has emitted that are still on their way (R43). -/
structure TimeBase where
  scale : Nat
  divider : Nat
  prescale : Nat
  due : TicksDue
deriving DecidableEq, Repr

/-! ### The target ports (chapters 5, 6 and 7) -/

/-- The state of a target (R79). -/
inductive TargetState where
  | online
  | fencing
  | fenced
  | faulted
deriving DecidableEq, Repr

/-- The state of a target port's link (R80). -/
inductive TargetLink where
  | training
  | up
  | down
deriving DecidableEq, Repr

/-- The legs of a mirror write; leg 1 goes to the primary target (R99). -/
inductive LegNo where
  | one
  | two
deriving DecidableEq, Repr

/-- The mirror leg field of an outstanding record: the port that holds the write's mirror record and the leg's number
(R82, R101). -/
structure LegRef where
  holder : TargetId
  leg : LegNo
deriving DecidableEq, Repr

/-- An outstanding record (R82); its xid is its place in the port's table of records. `owed` is as in `Lease` (R89). -/
structure OutRecord where
  master : MasterId
  tag : Tag
  generation : Nat
  window : Option WindowId
  kind : Kind
  address : Word
  length : Nat
  age : Nat
  leg : Option LegRef
  owed : Bool
deriving DecidableEq, Repr

/-- The end of a forwarded transaction (R87, R90, R94). -/
inductive EndOutcome where
  | ok
  | targetError
  | timeout
  | targetLost
deriving DecidableEq, Repr

/-- The outcome a mirror record holds for a leg (R101). -/
inductive LegOutcome where
  | skipped
  | pending
  | ended (o : EndOutcome)
deriving DecidableEq, Repr

/-- One leg in a mirror record (R101). -/
structure MirrorLeg where
  target : TargetId
  xid : Option Xid
  outcome : LegOutcome
deriving DecidableEq, Repr

/-- A mirror record (R101). The shape is SKIPPED_LEG exactly when the skipped target is present. -/
structure MirrorRecord where
  master : MasterId
  tag : Tag
  generation : Nat
  window : WindowId
  skipped : Option TargetId
  leg1 : MirrorLeg
  leg2 : MirrorLeg
deriving DecidableEq, Repr

/-- A target port (R78), with the mirror records that are held at it (R101). -/
structure TargetPort where
  state : TargetState
  link : TargetLink
  freeList : List Xid
  records : Table 16 (Option OutRecord)
  waiting : MasterSet
  lastServed : MasterId
  timeout : Nat
  threshold : Nat
  consecutive : Nat
  strays : Nat
  requesters : MasterSet
  mirrors : List MirrorRecord
deriving DecidableEq, Repr

/-- A target port after device reset (R78, R101). -/
def TargetPort.resetPort : TargetPort where
  state := .online
  link := .training
  freeList := allXids
  records := Table.fill 16 none
  waiting := MasterSet.empty
  lastServed := 3
  timeout := Config.resetTimeout
  threshold := Config.resetThreshold
  consecutive := 0
  strays := 0
  requesters := MasterSet.empty
  mirrors := []

/-! ### The command engine (chapter 8) -/

/-- The setup right (R121). -/
inductive SetupRight where
  | open
  | held (m : MasterId)
  | closed
deriving DecidableEq, Repr

/-- The commands a master issues through its slot (R128, R164). -/
inductive Command where
  | takeSetup
  | handSetup
  | dropSetup
  | closeSetup
  | querySetup
  | defineWindow
  | setRoute
  | setAccess
  | enableWindow
  | disableWindow
  | retireWindow
  | setDefault
  | queryWindow
  | claim
  | renew
  | release
  | withdraw
  | revoke
  | setTick
  | setTarget
  | queryTarget
  | fenceTarget
  | unfenceTarget
deriving DecidableEq, Repr

/-- The result codes of a command (8.5, R165). -/
inductive Result where
  | ok
  | accepted
  | granted
  | queued
  | already
  | badCommand
  | badField
  | badIndex
  | badState
  | badGeometry
  | slotInUse
  | leased
  | notSetup
  | setupHeld
  | setupClosed
  | portDown
  | held
  | duplicate
  | busyWindow
  | queueFull
  | notLeasable
  | notHolder
  | notHeld
  | notWaiting
  | ceiling
  | linkDown
deriving DecidableEq, Repr

/-- The state of a command slot (R129). -/
inductive SlotState where
  | idle
  | pending
  | executing
  | done
deriving DecidableEq, Repr

/-- The ten argument words of a slot (R162, R164). -/
abbrev Args := Table 10 Word

/-- A command slot (R129); no result is `none`. -/
structure Slot where
  code : BitVec 8
  args : Args
  state : SlotState
  result : Option Result
  words : Table 8 Word
deriving DecidableEq, Repr

/-- A slot after device reset and after its master's port cleanup (R129, R135). -/
def Slot.idleSlot : Slot where
  code := 0
  args := Table.fill 10 0
  state := .idle
  result := none
  words := Table.fill 8 0

/-- The command under way: delivered to its owning block and not yet taken there, with the arguments it was issued with, and
whether its result is to be discarded (R130, R132, R135). -/
structure UnderWay where
  master : MasterId
  command : Command
  args : Args
  discard : Bool
deriving DecidableEq, Repr

/-- The command engine (R121, R129, R132). -/
structure Engine where
  setup : SetupRight
  slots : Table 4 Slot
  lastServed : MasterId
  underWay : Option UnderWay
deriving DecidableEq, Repr

/-! ### The notice unit (chapter 9) -/

/-- Why a waiting claim lapsed (R76). -/
inductive LapseReason where
  | waitLimit
  | retired
deriving DecidableEq, Repr

/-- Why a target became FAULTED (R137). -/
inductive FaultCause where
  | threshold
  | linkDown
deriving DecidableEq, Repr

/-- Why a mirror write was split (R105). -/
inductive SplitCause where
  | targetError
  | timeout
  | targetLost
  | skipped
deriving DecidableEq, Repr

/-- The cause of a PROTOCOL_FAULT (R130, R153). -/
inductive ProtocolCause where
  | goWhileBusy
  | tagClash
deriving DecidableEq, Repr

/-- The fifteen notice kinds (R137). -/
inductive NoticeKind where
  | granted
  | expired
  | revoked
  | leaseWarning
  | claimLapsed
  | contention
  | windowRetired
  | fenceDone
  | fenceCancelled
  | targetFaulted
  | targetRestored
  | mirrorSplit
  | setupHanded
  | protocolFault
  | overflow
deriving DecidableEq, Repr

/-- A notice's kind with the fields that kind carries (R137). -/
inductive NoticeBody where
  | granted (w : WindowId) (remaining : Nat)
  | expired (w : WindowId)
  | revoked (w : WindowId) (by_ : MasterId)
  | leaseWarning (w : WindowId) (remaining : Nat)
  | claimLapsed (w : WindowId) (reason : LapseReason)
  | contention (w : WindowId) (refused : MasterId)
  | windowRetired (w : WindowId)
  | fenceDone (t : TargetId) (state : TargetState)
  | fenceCancelled (t : TargetId)
  | targetFaulted (t : TargetId) (cause : FaultCause)
  | targetRestored (t : TargetId) (left : TargetState)
  | mirrorSplit (w : WindowId) (t : TargetId) (tag : Tag) (cause : SplitCause)
  | setupHanded (from_ : MasterId)
  | protocolFault (cause : ProtocolCause) (tag : Tag)
  | overflow (count : Nat)
deriving DecidableEq, Repr

/-- A notice: its sequence number and its body (R137). -/
structure Notice where
  seq : BitVec 16
  body : NoticeBody
deriving DecidableEq, Repr

/-- An OVERFLOW notice in a queue: the sequence of the first notice it stands for, and its count (R139, R141). -/
structure Overflow where
  seq : BitVec 16
  count : Nat
deriving DecidableEq, Repr

/-- An event queue (R141): the real notices, oldest first, and the OVERFLOW notice behind them, if there is one. -/
structure EventQueue where
  real : List Notice
  overflow : Option Overflow
deriving DecidableEq, Repr

/-- The latched view when it holds a notice: the notice and the number left after it (R143). -/
structure LatchedView where
  notice : Notice
  left : Nat
deriving DecidableEq, Repr

/-- What the notice unit holds for one master (R139, R141, R143, R144). A latched view of kind NONE is `none`. Bit `k` of the
mask enables the kind whose code is `k` (R165). `line` is the pin INT_Mm, asserted when it is true. -/
structure NoticeUnit where
  queue : EventQueue
  nextSeq : BitVec 16
  view : Option LatchedView
  mask : BitVec 16
  line : Bool
deriving DecidableEq, Repr

/-- A master's part of the notice unit after device reset and after its port cleanup (R145, R146). -/
def NoticeUnit.resetUnit : NoticeUnit where
  queue := ⟨[], none⟩
  nextSeq := 0
  view := none
  mask := 0
  line := false

/-! ### The master ports (chapter 10) -/

/-- The state of a master port's link (R148). -/
inductive PortLink where
  | down
  | up
deriving DecidableEq, Repr

/-- The blocks that take a part in a port cleanup (R157). -/
inductive CleanupBlock where
  | engine
  | notices
  | leases
  | windows
  | target (t : TargetId)
deriving DecidableEq, Repr

/-- The cleanup state of a master port, with the blocks whose part is still to be taken (R148). -/
inductive CleanupState where
  | clear
  | underWay (left : List CleanupBlock)
deriving DecidableEq, Repr

/-- The state of a tag entry (R148). -/
inductive TagState where
  | free
  | outstanding
deriving DecidableEq, Repr

/-- The route a binding fixes, with the translated addresses (R32, R36). A mirror names its skipped leg, if it has one. -/
inductive BoundRoute where
  | single (t : TargetId) (address : Word)
  | mirror (t1 : TargetId) (address1 : Word) (t2 : TargetId) (address2 : Word) (skipped : Option LegNo)
deriving DecidableEq, Repr

/-- A target binding (R36); the master, tag, direction, length and data are the request's own. -/
structure Binding where
  generation : Nat
  window : Option WindowId
  route : BoundRoute
deriving DecidableEq, Repr

/-- The binding state of a request in an inbound queue (R148). An unbound request is `held` when its decision has been taken and
has left it unbound because its window's in-flight count is 64: its next decision comes with a change to the window table
(R17). -/
inductive BindState where
  | unbound (held : Bool)
  | bound (b : Binding)
deriving DecidableEq, Repr

/-- A request in an inbound queue (R148). -/
structure Request where
  tag : Tag
  kind : Kind
  address : Word
  length : Nat
  data : List Byte
  binding : BindState
deriving DecidableEq, Repr

/-- A master port (R148). `trained` says whether the link itself is trained, which R149 and R158 read when a cleanup ends. -/
structure MasterPort where
  link : PortLink
  trained : Bool
  cleanup : CleanupState
  inbound : List Request
  tags : Table 16 TagState
  generation : Nat
deriving DecidableEq, Repr

/-- A master port after device reset (R148, R161). -/
def MasterPort.resetPort : MasterPort where
  link := .down
  trained := false
  cleanup := .clear
  inbound := []
  tags := Table.fill 16 .free
  generation := 0

/-! ### Frames the part sends (11.5) -/

/-- The refusal codes (R35). -/
inductive RefusalCode where
  | malformed
  | noRoute
  | noAccess
  | heldElsewhere
  | notHolder
  | routeDeny
  | targetFenced
  | targetFaulted
deriving DecidableEq, Repr

/-- The statuses of a completion (R35, 11.5). -/
inductive CompletionStatus where
  | ok
  | refused
  | degraded
  | targetError
  | timeout
  | targetLost
deriving DecidableEq, Repr

/-- A completion frame to a master (R155). -/
structure CompletionFrame where
  tag : Tag
  status : CompletionStatus
  code : Option RefusalCode
  data : List Byte
deriving DecidableEq, Repr

/-- A request frame to a target (R85). -/
structure TargetFrame where
  xid : Xid
  kind : Kind
  address : Word
  length : Nat
  data : List Byte
deriving DecidableEq, Repr

/-! ### The whole part -/

/-- The reset pin RST_N (11.6): asserted is low. -/
inductive ResetPin where
  | asserted
  | released
deriving DecidableEq, Repr

/-- The state of the part. `toMaster` and `toTarget` hold the frames that each link has carried out of the part since device
reset, oldest first (log 3). `pending` is the queue of commands that wait, first in, first out. -/
structure State where
  rstN : ResetPin
  windows : Table 48 WindowRecord
  defaultRead : DefaultRoute
  defaultWrite : DefaultRoute
  leases : Table 48 (Option Lease)
  claims : List WaitingClaim
  time : TimeBase
  targets : Table 4 TargetPort
  engine : Engine
  notices : Table 4 NoticeUnit
  ports : Table 4 MasterPort
  toMaster : Table 4 (List CompletionFrame)
  toTarget : Table 4 (List TargetFrame)
  pending : List Instr
deriving DecidableEq, Repr

/-- The part right after device reset, RST_N released and nothing taken since (R21, R42, R60, R75, R78, R136, R146, R161). -/
def State.reset : State where
  rstN := .released
  windows := Table.fill 48 WindowRecord.freeRecord
  defaultRead := .deny
  defaultWrite := .deny
  leases := Table.fill 48 none
  claims := []
  time := ⟨Config.resetScale, Config.resetDivider, 0, TicksDue.none⟩
  targets := Table.fill 4 TargetPort.resetPort
  engine := ⟨.open, Table.fill 4 Slot.idleSlot, 3, none⟩
  notices := Table.fill 4 NoticeUnit.resetUnit
  ports := Table.fill 4 MasterPort.resetPort
  toMaster := Table.fill 4 []
  toTarget := Table.fill 4 []
  pending := []

/-- The faults of a step. There is none: the spec gives every command an effect, or says that it has none, in every state. -/
inductive Fault where
deriving DecidableEq, Repr

/-- The refusals of a step. -/
inductive Refusal where
  /-- Raised by the arm of a command that has no meaning yet, under the command's own name. Safe: the model then says nothing
  about the command. No arm raises it now. -/
  | notModelled (mnemonic : String)
deriving DecidableEq, Repr

end Sys2Proof.Machine
end

