-- ==== Sys2Proof/Machine/Operands.lean ====
section
/-! DEFINITION. Machine/Operands.lean: how argument words, frame bytes, addresses and control page offsets are read
(R2, R3, R24, R162, R164, 11.5), and the codes that name commands and results (R164, R165). -/

namespace Sys2Proof.Machine

/-! ### Argument words (R164) -/

/-- An argument word as an unsigned number. -/
def argNat (a : Args) (i : Fin 10) : Nat := (a.get i).toNat

/-- The number below `n` that an argument names, if it is in range. -/
def argFin (n : Nat) (v : Nat) : Option (Fin n) := if h : v < n then some ⟨v, h⟩ else none

/-- A set of masters from bits 3:0; a set with any bit above bit 3 is none. -/
def argSet (v : Nat) : Option MasterSet := if v < 16 then some (Table.ofFn fun m => v.testBit m.val) else none

/-- A flag, 0 or 1. -/
def argFlag (v : Nat) : Option Bool := if v = 0 then some false else if v = 1 then some true else none

/-- A lease policy code. -/
def argPolicy (v : Nat) : Option LeasePolicy :=
  if v = 0 then some .none else if v = 1 then some .sharedUntilHeld else if v = 2 then some .holdToWrite else none

/-- A lease kind code. -/
def argLeaseKind (v : Nat) : Option LeaseKind := if v = 1 then some .sole else if v = 2 then some .write else none

/-- A direction code. -/
def argDirection (v : Nat) : Option Kind := if v = 0 then some .read else if v = 1 then some .write else none

/-- The read route that a kind code and its arguments name (R8): DENY 0, FILL 1, TARGET 3. -/
def argReadRoute (kind t1 : Nat) (base1 : Word) : Option ReadRoute :=
  if kind = 0 then some .deny
  else if kind = 1 then some .fill
  else if kind = 3 then (argFin 4 t1).map fun t => .target t base1
  else none

/-- The write route that a kind code and its arguments name (R8): DENY 0, DISCARD 2, TARGET 3, MIRROR 4. -/
def argWriteRoute (kind t1 : Nat) (base1 : Word) (t2 : Nat) (base2 : Word) : Option WriteRoute :=
  if kind = 0 then some .deny
  else if kind = 2 then some .discard
  else if kind = 3 then (argFin 4 t1).map fun t => .target t base1
  else if kind = 4 then (argFin 4 t1).bind fun a => (argFin 4 t2).map fun b => .mirror a base1 b base2
  else none

/-- The default route that a kind code and a target name (R15): DENY 0, TARGET 3. -/
def argDefaultRoute (kind t : Nat) : Option DefaultRoute :=
  if kind = 0 then some .deny else if kind = 3 then (argFin 4 t).map .target else none

/-! ### Commands and results -/

/-- The command's code (R164). -/
def Command.code : Command → Nat
  | .takeSetup => 0x01
  | .handSetup => 0x02
  | .dropSetup => 0x03
  | .closeSetup => 0x04
  | .querySetup => 0x05
  | .defineWindow => 0x10
  | .setRoute => 0x11
  | .setAccess => 0x12
  | .enableWindow => 0x13
  | .disableWindow => 0x14
  | .retireWindow => 0x15
  | .setDefault => 0x16
  | .queryWindow => 0x17
  | .claim => 0x20
  | .renew => 0x21
  | .release => 0x22
  | .withdraw => 0x23
  | .revoke => 0x24
  | .setTick => 0x30
  | .setTarget => 0x31
  | .queryTarget => 0x32
  | .fenceTarget => 0x33
  | .unfenceTarget => 0x34

/-- Every command, in the order of the table of R164. -/
def allCommands : List Command :=
  [.takeSetup, .handSetup, .dropSetup, .closeSetup, .querySetup, .defineWindow, .setRoute, .setAccess, .enableWindow,
   .disableWindow, .retireWindow, .setDefault, .queryWindow, .claim, .renew, .release, .withdraw, .revoke, .setTick,
   .setTarget, .queryTarget, .fenceTarget, .unfenceTarget]

/-- The command a code names; a code not in the table of R164 names none (R133). -/
def commandOf (code : BitVec 8) : Option Command := allCommands.find? fun c => decide (c.code = code.toNat)

/-- The result's code; 0 stands for no result (R165). -/
def Result.code : Result → Nat
  | .ok => 1
  | .accepted => 2
  | .granted => 3
  | .queued => 4
  | .already => 5
  | .badCommand => 6
  | .badField => 7
  | .badIndex => 8
  | .badState => 9
  | .badGeometry => 10
  | .slotInUse => 11
  | .leased => 12
  | .notSetup => 13
  | .setupHeld => 14
  | .setupClosed => 15
  | .portDown => 16
  | .held => 17
  | .duplicate => 18
  | .busyWindow => 19
  | .queueFull => 20
  | .notLeasable => 21
  | .notHolder => 22
  | .notHeld => 23
  | .notWaiting => 24
  | .ceiling => 25
  | .linkDown => 26

/-- The value a master field shows: 0xFF for none (R165). -/
def masterField (m : Option MasterId) : Nat :=
  match m with
  | some m => m.val
  | none => 0xFF

/-- The result words a command fills, in order; the words it does not fill read 0 (R165). -/
def resultWords (l : List Nat) : Table 8 Word := Table.ofFn fun i => BitVec.ofNat 32 (l.getD i.val 0)

/-! ### Addresses and frames -/

/-- The address lies in the control page (R24). -/
def inControlPage (a : Word) : Bool := decide (Config.controlPageBase ≤ a.toNat)

/-- The offset of an address of the control page, which begins at a multiple of its 4 KiB (11). -/
def pageOffset (a : Word) : Nat := a.toNat % Config.controlPageSize

/-- A base or target base is a multiple of the window's size (R2, R3). -/
def alignedTo (sizeLog2 : Nat) (base : Word) : Bool := decide (base.toNat % 2 ^ sizeLog2 = 0)

/-- The geometry rules of R2 for a window's base and size_log2. -/
def geometryOk (base : Word) (sizeLog2 : Nat) : Bool :=
  if sizeLog2 < Config.minSizeLog2 then false
  else if Config.maxSizeLog2 < sizeLog2 then false
  else alignedTo sizeLog2 base && decide (base.toNat ≠ Config.addressSpace - 2 ^ sizeLog2)

/-- A read route's target base keeps R3. -/
def ReadRoute.geometryOk (r : ReadRoute) (sizeLog2 : Nat) : Bool :=
  match r with
  | .target _ base => alignedTo sizeLog2 base
  | .deny | .fill => true

/-- A write route's target bases and mirror pair keep R3. -/
def WriteRoute.geometryOk (r : WriteRoute) (sizeLog2 : Nat) : Bool :=
  match r with
  | .target _ base => alignedTo sizeLog2 base
  | .mirror t1 base1 t2 base2 => alignedTo sizeLog2 base1 && alignedTo sizeLog2 base2 && decide (t1 ≠ t2)
  | .deny | .discard => true

/-- The translated address: target base + (request address − window base) (R32). -/
def translatedAddress (targetBase address windowBase : Word) : Word := targetBase + (address - windowBase)

/-- The four bytes of a control page word on a link, byte n bits 8n+7:8n (DESIGN CHOICE, log 9). -/
def wordBytes (w : Word) : List Byte :=
  [w.extractLsb' 0 8, w.extractLsb' 8 8, w.extractLsb' 16 8, w.extractLsb' 24 8]

/-- The control page word that four bytes on a link spell, byte n bits 8n+7:8n (DESIGN CHOICE, log 9). -/
def bytesWord (l : List Byte) : Word := l.getD 3 0 ++ l.getD 2 0 ++ l.getD 1 0 ++ l.getD 0 0

/-- The words of the control page (R162); `unnamed` is every offset the table does not name (R163). -/
inductive PageWord where
  | command
  | argument (i : Fin 10)
  | resultCode
  | result (i : Fin 8)
  | eventPort0
  | eventPort1
  | eventPort2
  | eventPort3
  | noticeMask
  | setupStatus
  | defaultRoutes
  | tickSettings
  | masterLinks
  | unnamed
deriving DecidableEq, Repr

/-- The word at an offset that is a multiple of 4 (R162). -/
def pageWordAt (offset : Nat) : PageWord :=
  if offset = 0x000 then .command
  else if h : 0x004 ≤ offset ∧ offset ≤ 0x028 then .argument ⟨(offset - 0x004) / 4, by omega⟩
  else if offset = 0x040 then .resultCode
  else if h : 0x044 ≤ offset ∧ offset ≤ 0x060 then .result ⟨(offset - 0x044) / 4, by omega⟩
  else if offset = 0x100 then .eventPort0
  else if offset = 0x104 then .eventPort1
  else if offset = 0x108 then .eventPort2
  else if offset = 0x10C then .eventPort3
  else if offset = 0x110 then .noticeMask
  else if offset = 0x800 then .setupStatus
  else if offset = 0x804 then .defaultRoutes
  else if offset = 0x808 then .tickSettings
  else if offset = 0x80C then .masterLinks
  else .unnamed

end Sys2Proof.Machine
end

