-- ==== Sys2Proof/Machine/Flags.lean ====
section
/-! DEFINITION. Machine/Flags.lean: what the part's status words, notice words and interrupt lines show of its state
(R137, R143, R144, R164, R165, R166). -/

namespace Sys2Proof.Machine

/-! ### Notices -/

/-- The kind of a notice (R137). -/
def NoticeBody.kind : NoticeBody → NoticeKind
  | .granted _ _ => .granted
  | .expired _ => .expired
  | .revoked _ _ => .revoked
  | .leaseWarning _ _ => .leaseWarning
  | .claimLapsed _ _ => .claimLapsed
  | .contention _ _ => .contention
  | .windowRetired _ => .windowRetired
  | .fenceDone _ _ => .fenceDone
  | .fenceCancelled _ => .fenceCancelled
  | .targetFaulted _ _ => .targetFaulted
  | .targetRestored _ _ => .targetRestored
  | .mirrorSplit _ _ _ _ => .mirrorSplit
  | .setupHanded _ => .setupHanded
  | .protocolFault _ _ => .protocolFault
  | .overflow _ => .overflow

/-- The code of a notice kind, and its bit in the notice mask (R165); NONE has code 0. -/
def NoticeKind.code : NoticeKind → Nat
  | .granted => 1
  | .expired => 2
  | .revoked => 3
  | .leaseWarning => 4
  | .claimLapsed => 5
  | .contention => 6
  | .windowRetired => 7
  | .fenceDone => 8
  | .fenceCancelled => 9
  | .targetFaulted => 10
  | .targetRestored => 11
  | .mirrorSplit => 12
  | .setupHanded => 13
  | .protocolFault => 14
  | .overflow => 15

/-- The code of a target state (R165). -/
def TargetState.code : TargetState → Nat
  | .online => 0
  | .fencing => 1
  | .fenced => 2
  | .faulted => 3

/-- The code of a target port's link state (R165). -/
def TargetLink.code : TargetLink → Nat
  | .training => 0
  | .up => 1
  | .down => 2

/-- The code of a window state (R165). -/
def WindowState.code : WindowState → Nat
  | .free => 0
  | .defined => 1
  | .active => 2
  | .retiring => 3

/-- The code of a lease kind (R164). -/
def LeaseKind.code : LeaseKind → Nat
  | .sole => 1
  | .write => 2

/-- The state code of the setup right (R165). -/
def SetupRight.code : SetupRight → Nat
  | .open => 0
  | .held _ => 1
  | .closed => 2

/-- The holder of the setup right, if it has one (R121). -/
def SetupRight.holder : SetupRight → Option MasterId
  | .open => none
  | .held m => some m
  | .closed => none

/-- The code of a slot state (R164). -/
def SlotState.code : SlotState → Nat
  | .idle => 0
  | .pending => 1
  | .executing => 2
  | .done => 3

/-- The window a notice names; a field absent for its kind reads 0 (R137). -/
def NoticeBody.windowField : NoticeBody → Nat
  | .granted w _ => w.val
  | .expired w => w.val
  | .revoked w _ => w.val
  | .leaseWarning w _ => w.val
  | .claimLapsed w _ => w.val
  | .contention w _ => w.val
  | .windowRetired w => w.val
  | .mirrorSplit w _ _ _ => w.val
  | .fenceDone _ _ | .fenceCancelled _ | .targetFaulted _ _ | .targetRestored _ _ | .setupHanded _ | .protocolFault _ _
  | .overflow _ => 0

/-- The target a notice names, or 0 (R137). -/
def NoticeBody.targetField : NoticeBody → Nat
  | .fenceDone t _ => t.val
  | .fenceCancelled t => t.val
  | .targetFaulted t _ => t.val
  | .targetRestored t _ => t.val
  | .mirrorSplit _ t _ _ => t.val
  | .granted _ _ | .expired _ | .revoked _ _ | .leaseWarning _ _ | .claimLapsed _ _ | .contention _ _ | .windowRetired _
  | .setupHanded _ | .protocolFault _ _ | .overflow _ => 0

/-- The other master a notice names, or 0 (R137). -/
def NoticeBody.masterField : NoticeBody → Nat
  | .revoked _ m => m.val
  | .contention _ m => m.val
  | .setupHanded m => m.val
  | .granted _ _ | .expired _ | .leaseWarning _ _ | .claimLapsed _ _ | .windowRetired _ | .fenceDone _ _ | .fenceCancelled _
  | .targetFaulted _ _ | .targetRestored _ _ | .mirrorSplit _ _ _ _ | .protocolFault _ _ | .overflow _ => 0

/-- The code of a lapse reason (R165). -/
def LapseReason.code : LapseReason → Nat
  | .waitLimit => 1
  | .retired => 2

/-- The code of a fault's cause (R165). -/
def FaultCause.code : FaultCause → Nat
  | .threshold => 1
  | .linkDown => 2

/-- The code of a split's cause (R165). -/
def SplitCause.code : SplitCause → Nat
  | .targetError => 1
  | .timeout => 2
  | .targetLost => 3
  | .skipped => 4

/-- The code of a protocol fault's cause (R165). -/
def ProtocolCause.code : ProtocolCause → Nat
  | .goWhileBusy => 1
  | .tagClash => 2

/-- The value word of a notice (R165). -/
def NoticeBody.valueField : NoticeBody → Nat
  | .granted _ n => n
  | .leaseWarning _ n => n
  | .overflow n => n
  | .claimLapsed _ r => r.code
  | .fenceDone _ st => st.code
  | .targetFaulted _ c => c.code
  | .targetRestored _ st => st.code
  | .mirrorSplit _ _ _ c => c.code
  | .protocolFault c _ => c.code
  | .expired _ | .revoked _ _ | .contention _ _ | .windowRetired _ | .fenceCancelled _ | .setupHanded _ => 0

/-- The tag word of a notice, for MIRROR_SPLIT and PROTOCOL_FAULT (R165). -/
def NoticeBody.tagField : NoticeBody → Nat
  | .mirrorSplit _ _ tag _ => tag.val
  | .protocolFault _ tag => tag.val
  | .granted _ _ | .expired _ | .revoked _ _ | .leaseWarning _ _ | .claimLapsed _ _ | .contention _ _ | .windowRetired _
  | .fenceDone _ _ | .fenceCancelled _ | .targetFaulted _ _ | .targetRestored _ _ | .setupHanded _ | .overflow _ => 0

/-- Event port word 0: kind, notices left and sequence; all 0 for a view of kind NONE (R143, R165). -/
def viewWord0 (v : Option LatchedView) : Word :=
  match v with
  | none => 0
  | some v => BitVec.ofNat 32 (v.notice.body.kind.code + v.left <<< 8 + v.notice.seq.toNat <<< 16)

/-- Event port word 1: window, target and master (R165). -/
def viewWord1 (v : Option LatchedView) : Word :=
  match v with
  | none => 0
  | some v =>
    BitVec.ofNat 32 (v.notice.body.windowField + v.notice.body.targetField <<< 8 + v.notice.body.masterField <<< 16)

/-- Event port word 2: the value (R165). -/
def viewWord2 (v : Option LatchedView) : Word :=
  match v with
  | none => 0
  | some v => BitVec.ofNat 32 v.notice.body.valueField

/-- Event port word 3: the tag (R165). -/
def viewWord3 (v : Option LatchedView) : Word :=
  match v with
  | none => 0
  | some v => BitVec.ofNat 32 v.notice.body.tagField

/-- The OVERFLOW notice as a notice of its queue (R139). -/
def Overflow.notice (o : Overflow) : Notice := ⟨o.seq, .overflow o.count⟩

/-- The notices of an event queue, oldest first (R141). -/
def EventQueue.toList (q : EventQueue) : List Notice := q.real ++ (q.overflow.map Overflow.notice).toList

/-- The notice kind is enabled in a mask (R144). -/
def enabledIn (mask : BitVec 16) (k : NoticeKind) : Bool := mask.getLsbD k.code

/-- The interrupt line a queue and a mask call for (R144). -/
def lineOf (q : EventQueue) (mask : BitVec 16) : Bool := q.toList.any fun n => enabledIn mask n.body.kind

/-! ### Status words -/

/-- The command word as it reads: the code last stored and the slot state; GO reads 0 (R164). -/
def Slot.commandWord (sl : Slot) : Word := BitVec.ofNat 32 (sl.code.toNat + sl.state.code <<< 8)

/-- The result code word (R129, R165). -/
def Slot.resultCodeWord (sl : Slot) : Word :=
  match sl.result with
  | none => 0
  | some r => BitVec.ofNat 32 r.code

/-- The setup status word (R166). -/
def SetupRight.statusWord (r : SetupRight) : Word := BitVec.ofNat 32 (r.code + masterField r.holder <<< 8)

/-- The kind field of a default route in the default routes word: DENY 0, TARGET 1 (R166). -/
def DefaultRoute.kindField : DefaultRoute → Nat
  | .deny => 0
  | .target _ => 1

/-- The target field of a default route, 0 for DENY (R166). -/
def DefaultRoute.targetField : DefaultRoute → Nat
  | .deny => 0
  | .target t => t.val

/-- The default routes word (R166). -/
def defaultRoutesWord (rd wr : DefaultRoute) : Word :=
  BitVec.ofNat 32 (rd.kindField + rd.targetField <<< 4 + wr.kindField <<< 8 + wr.targetField <<< 12)

/-- The tick settings word (R166). -/
def TimeBase.settingsWord (b : TimeBase) : Word := BitVec.ofNat 32 (b.scale + b.divider <<< 16)

/-- The code of a master port's link state (R166). -/
def PortLink.code : PortLink → Nat
  | .down => 0
  | .up => 1

/-- The master links word (R166). -/
def masterLinksWord (ports : Table 4 MasterPort) : Word :=
  BitVec.ofNat 32 ((ports.get 0).link.code + (ports.get 1).link.code <<< 2 + (ports.get 2).link.code <<< 4
    + (ports.get 3).link.code <<< 6)

end Sys2Proof.Machine
end

