-- ==== Sys2Proof/Machine/Ops.lean ====
section
/-! DEFINITION. Machine/Ops.lean: the named operations over State that the meanings share: reading and writing the record of
a port or window, posting a notice, handing over a completion, the fall of an in-flight count, the end of a lease with its
handoff, the result of a delivered command, and the frame of a happening. -/

namespace Sys2Proof.Machine

/-! ### Reading and replacing one record -/

/-- The record of window `w`. -/
def State.window (s : State) (w : WindowId) : WindowRecord := s.windows.get w

/-- The state with the record of window `w` replaced. -/
def State.setWindow (s : State) (w : WindowId) (r : WindowRecord) : State := { s with windows := s.windows.put w r }

/-- The lease on window `w`, if it is held. -/
def State.lease (s : State) (w : WindowId) : Option Lease := s.leases.get w

/-- The state with the lease on window `w` replaced. -/
def State.setLease (s : State) (w : WindowId) (l : Option Lease) : State := { s with leases := s.leases.put w l }

/-- The state with the claim pool replaced. -/
def State.setClaims (s : State) (l : List WaitingClaim) : State := { s with claims := l }

/-- Target port `t`. -/
def State.target (s : State) (t : TargetId) : TargetPort := s.targets.get t

/-- The state with target port `t` replaced. -/
def State.setTarget (s : State) (t : TargetId) (p : TargetPort) : State := { s with targets := s.targets.put t p }

/-- The notice unit's part for master `m`. -/
def State.unit (s : State) (m : MasterId) : NoticeUnit := s.notices.get m

/-- The state with the notice unit's part for master `m` replaced. -/
def State.setUnit (s : State) (m : MasterId) (u : NoticeUnit) : State := { s with notices := s.notices.put m u }

/-- Master port `m`. -/
def State.port (s : State) (m : MasterId) : MasterPort := s.ports.get m

/-- The state with master port `m` replaced. -/
def State.setPort (s : State) (m : MasterId) (p : MasterPort) : State := { s with ports := s.ports.put m p }

/-- The state with the command engine replaced. -/
def State.setEngine (s : State) (e : Engine) : State := { s with engine := e }

/-- The command slot of master `m`. -/
def State.slot (s : State) (m : MasterId) : Slot := s.engine.slots.get m

/-- The state with the command slot of master `m` replaced. -/
def State.setSlot (s : State) (m : MasterId) (sl : Slot) : State :=
  s.setEngine { s.engine with slots := s.engine.slots.put m sl }

/-- The state with the time base replaced. -/
def State.setTime (s : State) (b : TimeBase) : State := { s with time := b }

/-- A completion frame leaves on the link of master `m`. -/
def State.sendToMaster (s : State) (m : MasterId) (f : CompletionFrame) : State :=
  { s with toMaster := s.toMaster.put m (s.toMaster.get m ++ [f]) }

/-- A request frame leaves on the link of target `t`. -/
def State.sendToTarget (s : State) (t : TargetId) (f : TargetFrame) : State :=
  { s with toTarget := s.toTarget.put t (s.toTarget.get t ++ [f]) }

/-! ### A happening -/

/-- A happening of the part: its effect while RST_N is released. While RST_N is asserted the part is held at its reset values
and nothing comes of it (DEDUCED, log 8). -/
def happening (s : State) (effect : State → State) : Host.Outcome State Fault Refusal :=
  .next (if s.rstN = .released then effect s else s)

/-! ### Turns among the masters -/

/-- The masters in turn, beginning with the one after last served (R84, R132). -/
def turnOrder (last : MasterId) : List MasterId := [last + 1, last + 2, last + 3, last]

/-! ### Posting a notice (R138 to R142) -/

/-- The line set afresh from the queue and the mask (R144). -/
def NoticeUnit.refresh (u : NoticeUnit) : NoticeUnit := { u with line := lineOf u.queue u.mask }

/-- A numbered notice arrives at an event queue: appended in OPEN, discarded in FULL with an OVERFLOW entering, discarded and
counted in OVERFLOWED (R141, R142). -/
def EventQueue.arrive (q : EventQueue) (n : Notice) : EventQueue :=
  match q.overflow with
  | some o => { q with overflow := some ⟨o.seq, min (o.count + 1) Config.maxOverflow⟩ }
  | none =>
    if q.real.length < Config.realNotices then { q with real := q.real ++ [n] }
    else { q with overflow := some ⟨n.seq, 1⟩ }

/-- The notice unit takes a notice for an UP master with no cleanup under way: it takes the next sequence number and is queued
or discarded (R139, R141). -/
def NoticeUnit.arrive (u : NoticeUnit) (b : NoticeBody) : NoticeUnit :=
  NoticeUnit.refresh { u with queue := u.queue.arrive ⟨u.nextSeq, b⟩, nextSeq := u.nextSeq + 1 }

/-- The master's port is UP with no cleanup under way, so that a notice for it is numbered (R139, R140). -/
def State.hears (s : State) (m : MasterId) : Bool :=
  decide ((s.port m).link = .up) && decide ((s.port m).cleanup = .clear)

/-- A notice is posted to master `m` (R138); one for a port that is DOWN or under cleanup is discarded (R140). -/
def State.post (s : State) (m : MasterId) (b : NoticeBody) : State :=
  if s.hears m then s.setUnit m ((s.unit m).arrive b) else s

/-- A notice is posted to each of the masters in turn (R110, R138). -/
def State.postEach (s : State) (ms : List MasterId) (b : NoticeBody) : State := ms.foldl (fun s m => s.post m b) s

/-- The masters whose port is UP, in rising number (R91, R94, R116). -/
def State.upMasters (s : State) : List MasterId := allMasters.filter fun m => decide ((s.port m).link = .up)

/-! ### Completions and the head of a queue (R22, R35, R155) -/

/-- A completion is handed to master port `m`: its frame leaves and its tag becomes FREE (R155). -/
def State.complete (s : State) (m : MasterId) (f : CompletionFrame) : State :=
  (s.sendToMaster m f).setPort m { s.port m with tags := (s.port m).tags.put f.tag .free }

/-- The head of a master's inbound queue. -/
def State.head (s : State) (m : MasterId) : Option Request := (s.port m).inbound.head?

/-- The head leaves its master's inbound queue (R22). -/
def State.leaveHead (s : State) (m : MasterId) : State :=
  s.setPort m { s.port m with inbound := (s.port m).inbound.tail }

/-- The head leaves with a completion (R22, R155). -/
def State.completeHead (s : State) (m : MasterId) (f : CompletionFrame) : State := (s.leaveHead m).complete m f

/-- A refusal's completion: REFUSED, with its code and no data (R35). -/
def refusal (tag : Tag) (code : RefusalCode) : CompletionFrame := ⟨tag, .refused, some code, []⟩

/-- The head is refused and leaves (R35). -/
def State.refuseHead (s : State) (m : MasterId) (tag : Tag) (code : RefusalCode) : State :=
  s.completeHead m (refusal tag code)

/-! ### The falls of in-flight counts (R16, R17, R19) -/

/-- A RETIRING window whose in-flight count is 0 becomes FREE, and WINDOW_RETIRED goes to its retiring master if one is
present (R19). -/
def State.finishRetirement (s : State) (w : WindowId) : State :=
  if (s.window w).state = .retiring ∧ (s.window w).inFlight = 0 then
    let freed := s.setWindow w WindowRecord.freeRecord
    match (s.window w).retiringMaster with
    | some m => freed.post m (.windowRetired w)
    | none => freed
  else s

/-- The in-flight count of a window falls by one; a RETIRING window whose count reaches 0 becomes FREE (R16, R19). -/
def State.countFalls (s : State) (w : WindowId) : State :=
  (s.setWindow w { s.window w with inFlight := (s.window w).inFlight - 1 }).finishRetirement w

/-- The fall of the count of the window a binding names; a default binding names none (R16). -/
def State.bindingEnds (s : State) (w : Option WindowId) : State :=
  match w with
  | some w => s.countFalls w
  | none => s

/-- Some window counts less than it did in the state `before` (R17). -/
def State.countFell (s before : State) : Bool :=
  allWindows.any fun w => decide ((s.window w).inFlight < (before.window w).inFlight)

/-! ### Leases and waiting claims (chapters 3 and 4) -/

/-- The waiting claims for a window, oldest first (R64). -/
def State.queueOf (s : State) (w : WindowId) : List WaitingClaim := s.claims.filter fun c => decide (c.window = w)

/-- The claim is the one a master has waiting for a window (R64). -/
def WaitingClaim.isFor (c : WaitingClaim) (w : WindowId) (m : MasterId) : Bool :=
  decide (c.window = w) && decide (c.claimant = m)

/-- The lease a granted claim makes: all of its time remaining, no renewal, nobody reported, and no countdown owed
(R48, R58). -/
def freshLease (m : MasterId) (kind : LeaseKind) (duration warnAt : Nat) : Lease where
  holder := m
  kind := kind
  duration := duration
  remaining := duration
  warnAt := warnAt
  warned := false
  renewals := 0
  reported := MasterSet.empty
  owed := false

/-- The handoff of a window that no master holds to its oldest waiting claim, if it has one: the claim leaves the pool, becomes
the lease, and GRANTED goes to the claimant (R58, R70). -/
def State.handOff (s : State) (w : WindowId) : State :=
  match s.lease w, s.queueOf w with
  | none, c :: _ =>
    let granted := (s.setClaims (s.claims.eraseP fun d => decide (d.window = w))).setLease w
      (some (freshLease c.claimant c.kind c.duration c.warnAt))
    granted.post c.claimant (.granted w c.duration)
  | _, _ => s

/-- The lease on a window ends, and the window is handed to its oldest waiting claim (R57, R58). -/
def State.endLease (s : State) (w : WindowId) : State := (s.setLease w none).handOff w

/-- The holder of a window, if it is held. -/
def State.holder (s : State) (w : WindowId) : Option MasterId := (s.lease w).map Lease.holder

/-! ### Delivered commands (R134) -/

/-- What the owning block hands back for a command: the result code and the result words (R134). -/
structure Reply where
  code : Result
  words : List Nat
deriving DecidableEq, Repr

/-- The slot shows DONE with a result (R129, R134). -/
def Slot.finish (sl : Slot) (r : Reply) : Slot :=
  { sl with state := .done, result := some r.code, words := resultWords r.words }

/-- A delivered command's result comes back: the command under way ends, and its slot becomes DONE unless its master's cleanup
has marked the result for discarding (R134, R135). -/
def State.finishCommand (s : State) (u : UnderWay) (r : Reply) : State :=
  let ended := s.setEngine { s.engine with underWay := none }
  if u.discard then ended else ended.setSlot u.master ((ended.slot u.master).finish r)

/-- The owning block takes the command under way, if it is command `c`: its checks, its effect and its notices, and then its
result, in one happening (R134). -/
def State.takeDelivered (s : State) (c : Command) (effect : State → MasterId → Args → State × Reply) : State :=
  match s.engine.underWay with
  | some u =>
    if u.command = c then
      let taken := effect s u.master u.args
      taken.1.finishCommand u taken.2
    else s
  | none => s

end Sys2Proof.Machine
end

