-- ==== Sys2Proof/Machine/Mirrors.lean ====
section
/-! DEFINITION. Machine/Mirrors.lean: the mirror bookkeeping: how a leg's end is recorded, and what the end of a mirror write
gives its master and its window (chapter 6). -/

namespace Sys2Proof.Machine

/-- The leg of a mirror record with a given number. -/
def MirrorRecord.leg (r : MirrorRecord) (n : LegNo) : MirrorLeg :=
  match n with
  | .one => r.leg1
  | .two => r.leg2

/-- The mirror record with the outcome of one leg recorded (R104). -/
def MirrorRecord.record (r : MirrorRecord) (n : LegNo) (o : EndOutcome) : MirrorRecord :=
  match n with
  | .one => { r with leg1 := { r.leg1 with outcome := .ended o } }
  | .two => { r with leg2 := { r.leg2 with outcome := .ended o } }

/-- The mirror record names this outstanding leg: its target, its xid, and no end yet (R101). -/
def MirrorRecord.names (r : MirrorRecord) (n : LegNo) (t : TargetId) (x : Xid) : Bool :=
  decide ((r.leg n).target = t) && decide ((r.leg n).xid = some x) && decide ((r.leg n).outcome = .pending)

/-- Every sent leg of the write has ended (R105). -/
def MirrorRecord.allEnded (r : MirrorRecord) : Bool :=
  decide (r.leg1.outcome ≠ .pending) && decide (r.leg2.outcome ≠ .pending)

/-- The status of an end handed to a master (R88). -/
def EndOutcome.status (o : EndOutcome) : CompletionStatus :=
  match o with
  | .ok => .ok
  | .targetError => .targetError
  | .timeout => .timeout
  | .targetLost => .targetLost

/-- The cause a failed leg gives MIRROR_SPLIT, if it failed (R105). -/
def EndOutcome.splitCause (o : EndOutcome) : Option SplitCause :=
  match o with
  | .ok => none
  | .targetError => some .targetError
  | .timeout => some .timeout
  | .targetLost => some .targetLost

/-- The status when both legs of a two-leg write failed: TIMEOUT before TARGET_LOST before TARGET_ERROR (R105). -/
def bothFailedStatus (o1 o2 : EndOutcome) : CompletionStatus :=
  if o1 = .timeout ∨ o2 = .timeout then .timeout
  else if o1 = .targetLost ∨ o2 = .targetLost then .targetLost
  else .targetError

/-- The completion status of a mirror write and the target and cause of its MIRROR_SPLIT, if one is due, from its leg outcomes
(R105). A record with an unended leg has no end yet. -/
def MirrorRecord.result (r : MirrorRecord) : Option (CompletionStatus × Option (TargetId × SplitCause)) :=
  match r.leg1.outcome, r.leg2.outcome with
  | .ended .ok, .ended .ok => some (.ok, none)
  | .ended .ok, .ended o2 => some (.degraded, o2.splitCause.map fun c => (r.leg2.target, c))
  | .ended o1, .ended .ok => some (.degraded, o1.splitCause.map fun c => (r.leg1.target, c))
  | .ended o1, .ended o2 => some (bothFailedStatus o1 o2, none)
  | .ended .ok, .skipped => some (.degraded, some (r.leg2.target, .skipped))
  | .skipped, .ended .ok => some (.degraded, some (r.leg1.target, .skipped))
  | .ended o, .skipped => some (o.status, none)
  | .skipped, .ended o => some (o.status, none)
  | _, _ => none

/-- The end of a mirror write: its completion and its MIRROR_SPLIT, unless it is an orphan, and the one fall of its window's
count (R105, R106, R107; the order of the notice before the fall, log 11). -/
def State.endMirror (s : State) (r : MirrorRecord) : State :=
  let told :=
    match r.result with
    | none => s
    | some (status, split) =>
      if r.generation = (s.port r.master).generation then
        let completed := s.complete r.master ⟨r.tag, status, none, []⟩
        match split with
        | some (t, cause) => completed.post r.master (.mirrorSplit r.window t r.tag cause)
        | none => completed
      else s
  told.countFalls r.window

/-- A sent leg ends: its outcome is recorded in the mirror record that names it, and with the last sent leg the record is
removed and the write ends (R104, R105). -/
def State.legEnds (s : State) (ref : LegRef) (t : TargetId) (x : Xid) (o : EndOutcome) : State :=
  let holder := s.target ref.holder
  match holder.mirrors.find? fun r => r.names ref.leg t x with
  | none => s
  | some r =>
    let recorded := r.record ref.leg o
    if recorded.allEnded then
      (s.setTarget ref.holder { holder with mirrors := holder.mirrors.eraseP fun r => r.names ref.leg t x }).endMirror recorded
    else
      s.setTarget ref.holder
        { holder with mirrors := holder.mirrors.map fun r => if r.names ref.leg t x then r.record ref.leg o else r }

end Sys2Proof.Machine
end

