-- ==== Sys2Proof/Machine/Steering.lean ====
section
/-! DEFINITION. Machine/Steering.lean: the steering decision and the control page: STEERING_DECISION, EVENT_PORT_READ,
NOTICE_MASK_WRITE and CONTROL_PAGE_WRITE (chapters 2 and 11, 8.3, 9.5, 9.6). -/

namespace Sys2Proof.Machine

/-! ### Bindings and target states (R33, R34, R36, R99) -/

/-- The refusal code of a target that is not ONLINE (R33, R38). -/
def TargetState.refusalCode (st : TargetState) : RefusalCode :=
  if st = .faulted then .targetFaulted else .targetFenced

/-- The refusal code of a mirror write that has neither target left: TARGET_FAULTED if either is FAULTED (R34, R103). -/
def State.mirrorRefusal (s : State) (t1 t2 : TargetId) : RefusalCode :=
  if (s.target t1).state = .faulted ∨ (s.target t2).state = .faulted then .targetFaulted else .targetFenced

/-- The target an unskipped leg of a skipped-leg write goes to (R99). -/
def sentTarget (t1 t2 : TargetId) (skipped : LegNo) : TargetId :=
  match skipped with
  | .one => t2
  | .two => t1

/-- The head's binding is replaced while it waits. -/
def State.rebindHead (s : State) (m : MasterId) (b : Binding) : State :=
  match (s.port m).inbound with
  | [] => s
  | r :: rest => s.setPort m { s.port m with inbound := { r with binding := .bound b } :: rest }

/-! ### The decision (R23) -/

/-- The result of a decision (R23): a control page access, a refusal, a FILL read, a DISCARD write, a target binding, or the
wait of a request whose window's in-flight count is 64. A HELD_ELSEWHERE refusal names the window, for R30. -/
inductive Decision where
  | controlPage
  | refuse (code : RefusalCode)
  | heldElsewhere (w : WindowId)
  | fill
  | discard
  | bind (b : Binding)
  | waitAtLimit
deriving DecidableEq, Repr

/-- The window is ACTIVE and its range contains the address (R25). -/
def WindowRecord.candidate (r : WindowRecord) (address : Word) : Bool :=
  decide (r.state = .active) && decide (r.base.toNat ≤ address.toNat)
    && decide (address.toNat < r.base.toNat + 2 ^ r.sizeLog2)

/-- The better of the best candidate so far and a candidate of higher index: the higher tier, and at one tier the lower index
(R25). -/
def State.betterMatch (s : State) (best : Option WindowId) (w : WindowId) : Option WindowId :=
  match best with
  | none => some w
  | some b => if (s.window b).tier < (s.window w).tier then some w else some b

/-- The matched window of an address outside the control page: of the candidates, the highest tier, and at that tier the lowest
index (R25). -/
def State.matchWindow (s : State) (address : Word) : Option WindowId :=
  (allWindows.filter fun w => (s.window w).candidate address).foldl s.betterMatch none

/-- The master set of a window for a direction (R4). -/
def WindowRecord.setFor (r : WindowRecord) (k : Kind) : MasterSet :=
  match k with
  | .read => r.readSet
  | .write => r.writeSet

/-- The lease check (R28): nothing when the request passes, or the refusal. -/
def State.leaseCheck (s : State) (m : MasterId) (w : WindowId) (k : Kind) : Option RefusalCode :=
  match s.lease w with
  | some l =>
    if l.holder = m then none
    else
      match l.kind, k with
      | .sole, _ => some .heldElsewhere
      | .write, .write => some .heldElsewhere
      | .write, .read => none
  | none =>
    match (s.window w).policy, k with
    | .holdToWrite, .write => some .notHolder
    | .holdToWrite, .read => none
    | .sharedUntilHeld, _ => none
    | .none, _ => none

/-- The target state step for a request with one target (R33). -/
def State.oneTarget (s : State) (t : TargetId) (b : Binding) : Decision :=
  if (s.target t).state = .online then .bind b else .refuse (s.target t).state.refusalCode

/-- The target state step for a MIRROR route: both legs, the one leg whose target is ONLINE, or a refusal (R34, R99). -/
def State.twoTargets (s : State) (generation : Nat) (w : WindowId) (t1 : TargetId) (a1 : Word) (t2 : TargetId) (a2 : Word) :
    Decision :=
  match decide ((s.target t1).state = .online), decide ((s.target t2).state = .online) with
  | true, true => .bind ⟨generation, some w, .mirror t1 a1 t2 a2 none⟩
  | true, false => .bind ⟨generation, some w, .mirror t1 a1 t2 a2 (some .two)⟩
  | false, true => .bind ⟨generation, some w, .mirror t1 a1 t2 a2 (some .one)⟩
  | false, false => .refuse (s.mirrorRefusal t1 t2)

/-- The count step: a target binding to a window whose in-flight count is 64 or more waits unbound instead (R17, step 8). -/
def State.countLimited (s : State) (w : WindowId) (d : Decision) : Decision :=
  match d with
  | .bind b => if (s.window w).inFlight < Config.maxInFlight then .bind b else .waitAtLimit
  | .controlPage => .controlPage
  | .refuse code => .refuse code
  | .heldElsewhere w => .heldElsewhere w
  | .fill => .fill
  | .discard => .discard
  | .waitAtLimit => .waitAtLimit

/-- The decision of a request that has passed the lease check of window `w`: its route for the direction, the translated
address, the target state and the count (R31 to R34, R17). -/
def State.routeDecision (s : State) (m : MasterId) (w : WindowId) (r : Request) : Decision :=
  let generation := (s.port m).generation
  let address := fun targetBase => translatedAddress targetBase r.address (s.window w).base
  let single := fun t targetBase => Binding.mk generation (some w) (.single t (address targetBase))
  match r.kind with
  | .read =>
    match (s.window w).readRoute with
    | .deny => .refuse .routeDeny
    | .fill => .fill
    | .target t tb => s.countLimited w (s.oneTarget t (single t tb))
  | .write =>
    match (s.window w).writeRoute with
    | .deny => .refuse .routeDeny
    | .discard => .discard
    | .target t tb => s.countLimited w (s.oneTarget t (single t tb))
    | .mirror t1 b1 t2 b2 =>
      s.countLimited w (s.twoTargets generation w t1 (address b1) t2 (address b2))

/-- The default route for a direction (R26). -/
def State.defaultRoute (s : State) (k : Kind) : DefaultRoute :=
  match k with
  | .read => s.defaultRead
  | .write => s.defaultWrite

/-- The decision of a request that matches no window: NO_ROUTE, or the default route's target with the address unchanged
(R26). -/
def State.defaultDecision (s : State) (m : MasterId) (r : Request) : Decision :=
  match s.defaultRoute r.kind with
  | .deny => .refuse .noRoute
  | .target t => s.oneTarget t ⟨(s.port m).generation, none, .single t r.address⟩

/-- The decision for a request outside the control page that matches window `w`: access, lease, route (R27, R28, R31). -/
def State.windowDecision (s : State) (m : MasterId) (w : WindowId) (r : Request) : Decision :=
  if !((s.window w).setFor r.kind).get m then .refuse .noAccess
  else
    match s.leaseCheck m w r.kind with
    | some .heldElsewhere => .heldElsewhere w
    | some code => .refuse code
    | none => s.routeDecision m w r

/-- A control page access is 4 bytes long at an address that is a multiple of 4 (R24). -/
def Request.pageAccessOk (r : Request) : Bool := decide (r.length = 4) && decide (r.address.toNat % 4 = 0)

/-- The decision for a request outside the control page: its matched window or the default route (R25, R26). -/
def State.steered (s : State) (m : MasterId) (r : Request) : Decision :=
  match s.matchWindow r.address with
  | none => s.defaultDecision m r
  | some w => s.windowDecision m w r

/-- The whole decision for a request of master `m`, read off the state at one moment (R22, R23). -/
def State.decision (s : State) (m : MasterId) (r : Request) : Decision :=
  if inControlPage r.address then
    if r.pageAccessOk then .controlPage else .refuse .malformed
  else s.steered m r

/-! ### Control page accesses (R24, R162, R163) -/

/-- The word of the control page that a request reaches. -/
def Request.pageWord (r : Request) : PageWord := pageWordAt (pageOffset r.address)

/-- What a read of a control page word by master `m` returns as its owner holds it; event port word 0 is given after its pop
(R131, R143, R144, R162, R163, R166). -/
def State.pageRead (s : State) (m : MasterId) (w : PageWord) : Word :=
  match w with
  | .command => (s.slot m).commandWord
  | .argument i => (s.slot m).args.get i
  | .resultCode => (s.slot m).resultCodeWord
  | .result i => (s.slot m).words.get i
  | .eventPort0 => viewWord0 (s.unit m).view
  | .eventPort1 => viewWord1 (s.unit m).view
  | .eventPort2 => viewWord2 (s.unit m).view
  | .eventPort3 => viewWord3 (s.unit m).view
  | .noticeMask => (s.unit m).mask.setWidth 32
  | .setupStatus => s.engine.setup.statusWord
  | .defaultRoutes => defaultRoutesWord s.defaultRead s.defaultWrite
  | .tickSettings => s.time.settingsWord
  | .masterLinks => masterLinksWord s.ports
  | .unnamed => 0

/-- A read of event port word 0: the oldest notice moves to the latched view with the number left, or, from an empty queue, the
view becomes NONE; the line is set afresh after a pop (R143, R144). -/
def NoticeUnit.pop (u : NoticeUnit) : NoticeUnit :=
  match u.queue.real, u.queue.overflow with
  | n :: rest, o => NoticeUnit.refresh { u with
      queue := ⟨rest, o⟩, view := some ⟨n, (EventQueue.toList ⟨rest, o⟩).length⟩ }
  | [], some o => NoticeUnit.refresh { u with queue := ⟨[], none⟩, view := some ⟨o.notice, 0⟩ }
  | [], none => { u with view := none }

/-- The state a read of a control page word leaves: only event port word 0 changes anything (R131, R143, R163). -/
def State.pageReadEffect (s : State) (m : MasterId) (w : PageWord) : State :=
  if w = .eventPort0 then s.setUnit m (s.unit m).pop else s

/-- A write of the notice mask: bits 1 to 15 replace the mask, and the line is set afresh (R144, R165). -/
def NoticeUnit.writeMask (u : NoticeUnit) (v : Word) : NoticeUnit :=
  NoticeUnit.refresh { u with mask := v.setWidth 16 &&& 0xFFFE#16 }

/-- The slot takes a new command or new arguments: it is IDLE or DONE (R130). -/
def Slot.accepts (sl : Slot) : Bool := decide (sl.state = .idle) || decide (sl.state = .done)

/-- The GO flag of a command word, bit 31 (R164). -/
def goFlag (v : Word) : Bool := v.getLsbD 31

/-- A GO taken by a slot: the code is stored, the result cleared, and the slot is PENDING (R130). -/
def Slot.go (sl : Slot) (v : Word) : Slot :=
  { sl with code := v.setWidth 8, state := .pending, result := none, words := Table.fill 8 0 }

/-- A write of the command word: a GO is taken in IDLE or DONE and answered with PROTOCOL_FAULT otherwise; without GO it is
ignored (R130). -/
def State.writeCommandWord (s : State) (m : MasterId) (v : Word) (tag : Tag) : State :=
  if goFlag v then
    if (s.slot m).accepts then s.setSlot m ((s.slot m).go v) else s.post m (.protocolFault .goWhileBusy tag)
  else s

/-- A write of an argument word: taken in IDLE or DONE, ignored otherwise (R130). -/
def State.writeArgument (s : State) (m : MasterId) (i : Fin 10) (v : Word) : State :=
  if (s.slot m).accepts then s.setSlot m { s.slot m with args := (s.slot m).args.put i v } else s

/-- A write of a control page word by master `m`, on a request with this tag; read-only and unnamed words are left as they
were (R130, R144, R163). -/
def State.pageWrite (s : State) (m : MasterId) (w : PageWord) (v : Word) (tag : Tag) : State :=
  match w with
  | .command => s.writeCommandWord m v tag
  | .argument i => s.writeArgument m i v
  | .noticeMask => s.setUnit m ((s.unit m).writeMask v)
  | .resultCode | .result _ | .eventPort0 | .eventPort1 | .eventPort2 | .eventPort3 | .setupStatus | .defaultRoutes
  | .tickSettings | .masterLinks | .unnamed => s

/-- A control page access decided at the head: the owning block takes it, and the request completes OK at once, a read with
the word's value (R24, R162). -/
def State.pageAccess (s : State) (m : MasterId) (r : Request) : State :=
  match r.kind with
  | .read =>
    let taken := s.pageReadEffect m r.pageWord
    taken.completeHead m ⟨r.tag, .ok, none, wordBytes (taken.pageRead m r.pageWord)⟩
  | .write => (s.pageWrite m r.pageWord (bytesWord r.data) r.tag).completeHead m ⟨r.tag, .ok, none, []⟩

/-! ### Carrying a decision out -/

/-- The contention mark of a HELD_ELSEWHERE refusal: on a window that reports contention, a master not yet in the lease's
reported set is added to it and CONTENTION goes to the holder (R30, R61). -/
def State.markContention (s : State) (w : WindowId) (m : MasterId) : State :=
  match s.lease w with
  | some l =>
    if (s.window w).contention && !l.reported.get m then
      (s.setLease w (some { l with reported := l.reported.insert m })).post l.holder (.contention w m)
    else s
  | none => s

/-- The targets a route waits for an xid at (R83). -/
def BoundRoute.waitsAt (r : BoundRoute) : List TargetId :=
  match r with
  | .single t _ => [t]
  | .mirror t1 _ t2 _ none => [t1, t2]
  | .mirror t1 _ t2 _ (some k) => [sentTarget t1 t2 k]

/-- The master joins a target's waiting set (R83). -/
def State.startWaiting (s : State) (m : MasterId) (t : TargetId) : State :=
  s.setTarget t { s.target t with waiting := (s.target t).waiting.insert m }

/-- The in-flight count of a window rises by one (R16). -/
def State.countRises (s : State) (w : WindowId) : State :=
  s.setWindow w { s.window w with inFlight := (s.window w).inFlight + 1 }

/-- The rise of the count of the window a binding names; a default binding names none (R16). -/
def State.bindingBegins (s : State) (w : Option WindowId) : State :=
  match w with
  | some w => s.countRises w
  | none => s

/-- A target binding: the head becomes BOUND, the window's count rises, and the master joins the waiting sets (R36, R83). -/
def State.bindHead (s : State) (m : MasterId) (b : Binding) : State :=
  b.route.waitsAt.foldl (fun s t => s.startWaiting m t) ((s.rebindHead m b).bindingBegins b.window)

/-- The head stays unbound, held at the count limit until a later change to the window table (R17). -/
def State.holdHead (s : State) (m : MasterId) : State :=
  match (s.port m).inbound with
  | [] => s
  | r :: rest => s.setPort m { s.port m with inbound := { r with binding := .unbound true } :: rest }

/-- What a decision does (R24, R30, R31, R35, R36). -/
def State.carryOut (s : State) (m : MasterId) (r : Request) (d : Decision) : State :=
  match d with
  | .controlPage => s.pageAccess m r
  | .refuse code => s.refuseHead m r.tag code
  | .heldElsewhere w => (s.refuseHead m r.tag .heldElsewhere).markContention w m
  | .fill => s.completeHead m ⟨r.tag, .ok, none, List.replicate r.length 0xFF#8⟩
  | .discard => s.completeHead m ⟨r.tag, .ok, none, []⟩
  | .bind b => s.bindHead m b
  | .waitAtLimit => s.holdHead m

/-- The head of a master's queue, if its decision is due: it is unbound, and not one held at the count limit, whose fresh
decision comes with a change to the window table (R17, R22). -/
def State.dueHead (s : State) (m : MasterId) : Option Request :=
  match s.head m with
  | some r => if r.binding = .unbound false then some r else none
  | none => none

/-- The decision for the head of a master's queue is taken whole and carried out (R22, R23). -/
def State.decideHead (s : State) (m : MasterId) : State :=
  match s.dueHead m with
  | some r => s.carryOut m r (s.decision m r)
  | none => s

/-! ### Fresh decisions at the count limit (R17) -/

/-- The head of a master's queue, if it is held at the count limit (R17). -/
def State.heldHead (s : State) (m : MasterId) : Option Request :=
  match s.head m with
  | some r => if r.binding = .unbound true then some r else none
  | none => none

/-- The fresh decision of a head held at the count limit: a whole new decision, taken and carried out against the state as it
now stands (R17). The request was steered to a window, so it lies outside the control page. -/
def State.redecideHead (s : State) (m : MasterId) : State :=
  match s.heldHead m with
  | some r => s.carryOut m r (s.steered m r)
  | none => s

/-- A change to the window table: every head held at the count limit is decided afresh, in rising master number (R17; the
order, and which happenings are such a change, log 6). -/
def State.redecideHeads (s : State) : State := allMasters.foldl State.redecideHead s

/-- The fresh decisions at the end of a happening that began in the state `before`: taken if some window's count has fallen in
it (R17, log 6). -/
def State.redecideAfterFalls (s before : State) : State := if s.countFell before then s.redecideHeads else s

/-! ### The steering commands -/

/-- The head of a master's queue, if it is a well-formed control page access of this kind whose decision is due. -/
def State.duePageAccess (s : State) (m : MasterId) (k : Kind) (wanted : PageWord → Bool) : Bool :=
  match s.dueHead m with
  | some r => inControlPage r.address && r.pageAccessOk && decide (r.kind = k) && wanted r.pageWord
  | none => false

/-- STEERING_DECISION (R23): the decision for the head of a master's inbound queue. -/
def execSteeringDecision (m : MasterId) (s : State) : Host.Outcome State Fault Refusal :=
  happening s fun s => s.decideHead m

/-- EVENT_PORT_READ (R143): the decision for a head that reads event port word 0 (log 14). -/
def execEventPortRead (m : MasterId) (s : State) : Host.Outcome State Fault Refusal :=
  happening s fun s => if s.duePageAccess m .read (fun w => decide (w = .eventPort0)) then s.decideHead m else s

/-- NOTICE_MASK_WRITE (R144): the decision for a head that writes the notice mask (log 14). -/
def execNoticeMaskWrite (m : MasterId) (s : State) : Host.Outcome State Fault Refusal :=
  happening s fun s => if s.duePageAccess m .write (fun w => decide (w = .noticeMask)) then s.decideHead m else s

/-- CONTROL_PAGE_WRITE (R130, R163): the decision for a head that writes any other control page word (log 14). -/
def execControlPageWrite (m : MasterId) (s : State) : Host.Outcome State Fault Refusal :=
  happening s fun s => if s.duePageAccess m .write (fun w => decide (w ≠ .noticeMask)) then s.decideHead m else s

end Sys2Proof.Machine
end

