-- ==== Sys2Proof/Machine/Targets.lean ====
section
/-! DEFINITION. Machine/Targets.lean: the target ports: the ends of a transaction, the re-examination of waiting heads, the
fault by threshold, the drain of a fence, and the happenings TIMEOUT, TARGET_COMPLETION, TARGET_LINK_DOWN and
TARGET_LINK_TRAINS with the commands SET_TARGET and QUERY_TARGET (chapter 5). -/

namespace Sys2Proof.Machine

/-! ### Records and identifiers (R81, R82) -/

/-- The outstanding record that holds an xid at a target port, if one does. -/
def TargetPort.record (p : TargetPort) (x : Xid) : Option OutRecord := p.records.get x

/-- The outstanding count of a target port, 0 to 16 (R81). -/
def TargetPort.outstanding (p : TargetPort) : Nat := (allXids.filter fun x => (p.record x).isSome).length

/-- The record of an xid is removed, and the xid joins the tail of the free list (R81). -/
def TargetPort.freeXid (p : TargetPort) (x : Xid) : TargetPort :=
  { p with records := p.records.put x none, freeList := p.freeList ++ [x] }

/-! ### The end of a transaction (R88, R93) -/

/-- A forwarded transaction ends: its record is removed, its xid is freed, and the end is delivered to its master port, to the
mirror bookkeeping, or, for an orphan, to nobody; its window's count falls (R87, R88, R93). -/
def State.endTransaction (s : State) (t : TargetId) (x : Xid) (o : EndOutcome) (data : List Byte) : State :=
  match (s.target t).record x with
  | none => s
  | some r =>
    let freed := s.setTarget t ((s.target t).freeXid x)
    match r.leg with
    | some ref => freed.legEnds ref t x o
    | none =>
      let told :=
        if r.generation = (freed.port r.master).generation then
          freed.complete r.master ⟨r.tag, o.status, none, data⟩
        else freed
      told.bindingEnds r.window

/-! ### Re-examination of waiting heads (R38, R102, R103, R112) -/

/-- The leg of a two-leg mirror write that goes to target `t`. -/
def legAt (t1 t : TargetId) : LegNo := if t1 = t then .one else .two

/-- The master leaves a target's waiting set (R83). -/
def State.stopWaiting (s : State) (t : TargetId) (m : MasterId) : State :=
  s.setTarget t { s.target t with waiting := (s.target t).waiting.erase m }

/-- The head of `m`, waiting for an xid at target `t` that has just left ONLINE, is re-examined: a head with one target is
refused with the code of the target's state, a two-leg mirror write goes on waiting at its other target with this leg
skipped, and a skipped-leg mirror write whose sent target this is is refused (R38, R102, R103). -/
def State.reexamineHead (s : State) (t : TargetId) (m : MasterId) : State :=
  let out := s.stopWaiting t m
  match s.head m with
  | some ⟨tag, _, _, _, _, .bound b⟩ =>
    match b.route with
    | .single t' _ =>
      if t' = t then (out.refuseHead m tag (out.target t).state.refusalCode).bindingEnds b.window else out
    | .mirror t1 a1 t2 a2 none =>
      if t1 = t ∨ t2 = t then out.rebindHead m { b with route := .mirror t1 a1 t2 a2 (some (legAt t1 t)) } else out
    | .mirror t1 _ t2 _ (some k) =>
      if sentTarget t1 t2 k = t then (out.refuseHead m tag (out.mirrorRefusal t1 t2)).bindingEnds b.window else out
  | _ => out

/-- Every master in the waiting set is re-examined, in rising number (R38, R112; the order, log 10). -/
def State.reexamine (s : State) (t : TargetId) : State :=
  (s.target t).waiting.members.foldl (fun s m => s.reexamineHead t m) s

/-- The target enters a state other than ONLINE. -/
def State.enterState (s : State) (t : TargetId) (st : TargetState) : State :=
  s.setTarget t { s.target t with state := st }

/-! ### Timeouts, faults and the drain (R89 to R91, R113) -/

/-- An ONLINE target becomes FAULTED by threshold: its state, its waiting heads, and TARGET_FAULTED with cause THRESHOLD to
every UP master (R91). -/
def State.faultByThreshold (s : State) (t : TargetId) : State :=
  let examined := (s.enterState t .faulted).reexamine t
  examined.postEach examined.upMasters (.targetFaulted t .threshold)

/-- Each member of the fence requester set is told the end of the fence, in rising master number, and the set is emptied
(R110). -/
def State.tellRequesters (s : State) (t : TargetId) (b : NoticeBody) : State :=
  let told := s.postEach (s.target t).requesters.members b
  told.setTarget t { told.target t with requesters := MasterSet.empty }

/-- A FENCING target with nothing outstanding becomes FENCED, and FENCE_DONE goes to each requester (R113). -/
def State.finishDrain (s : State) (t : TargetId) : State :=
  if (s.target t).state = .fencing ∧ (s.target t).outstanding = 0 then
    (s.enterState t .fenced).tellRequesters t (.fenceDone t .fenced)
  else s

/-- The target's consecutive count rises by one, saturating (R90). -/
def State.countTimeout (s : State) (t : TargetId) : State :=
  s.setTarget t { s.target t with consecutive := min ((s.target t).consecutive + 1) Config.maxCount }

/-- The fault threshold of an ONLINE target is reached (R90). -/
def TargetPort.thresholdReached (p : TargetPort) : Bool :=
  decide (p.state = .online) && decide (p.threshold ≠ 0) && decide (p.threshold ≤ p.consecutive)

/-- The end of a transaction by timeout: its end with outcome TIMEOUT, the rise of the consecutive count, the fault by threshold
if it is reached, and the end of a fence drain if this was the last transaction (R90, R91, R113). -/
def State.endByTimeout (s : State) (t : TargetId) (x : Xid) : State :=
  let ended := (s.endTransaction t x .timeout []).countTimeout t
  if (ended.target t).thresholdReached then ended.faultByThreshold t else ended.finishDrain t

/-- A transaction times out, and the fresh decisions that the falls call for come last (R17, R90). -/
def State.timeOut (s : State) (t : TargetId) (x : Xid) : State := (s.endByTimeout t x).redecideAfterFalls s

/-- The record after a count: its age rises by one, saturating (R89). -/
def OutRecord.count (r : OutRecord) : OutRecord := { r with age := min (r.age + 1) Config.maxCount, owed := false }

/-- The record times out at this count under a response timeout (R89). -/
def OutRecord.timesOut (r : OutRecord) (timeout : Nat) : Bool :=
  decide (timeout ≠ 0) && decide (timeout ≤ r.count.age)

/-- The count that an outstanding record owes, if it owes one: its age rises by one, and it times out in the same count when
the age reaches a non-zero response timeout (R89, R90). -/
def State.countAge (s : State) (t : TargetId) (x : Xid) : State :=
  match (s.target t).record x with
  | none => s
  | some r =>
    if r.owed then
      let counted := s.setTarget t { s.target t with records := (s.target t).records.put x (some r.count) }
      if r.timesOut (s.target t).timeout then counted.timeOut t x else counted
    else s

/-- The record of an xid owes a count at which it times out (R90). -/
def State.timeoutDue (s : State) (t : TargetId) (x : Xid) : Bool :=
  match (s.target t).record x with
  | some r => r.owed && r.timesOut (s.target t).timeout
  | none => false

/-- TIMEOUT (R90): the count of an outstanding record at which it times out. -/
def execTimeout (t : TargetId) (x : Xid) (s : State) : Host.Outcome State Fault Refusal :=
  happening s fun s => if s.timeoutDue t x then s.countAge t x else s

/-! ### Answers and strays (R87, R92) -/

/-- The answer fits the record it finds (R87). -/
def answerFits (f : AnswerFrame) (r : OutRecord) : Bool :=
  match f.status, r.kind with
  | .ok, .read => decide (f.data.length = r.length)
  | .ok, .write => f.data.isEmpty
  | .error, _ => f.data.isEmpty

/-- The outcome of an answer (R87). -/
def answerOutcome (a : AnswerStatus) : EndOutcome :=
  match a with
  | .ok => .ok
  | .error => .targetError

/-- A stray is counted and changes nothing else (R92). -/
def State.countStray (s : State) (t : TargetId) : State :=
  s.setTarget t { s.target t with strays := min ((s.target t).strays + 1) Config.maxCount }

/-- An OK answer sets the consecutive count to 0; an ERROR answer leaves it (R87). -/
def State.noteAnswer (s : State) (t : TargetId) (a : AnswerStatus) : State :=
  match a with
  | .ok => s.setTarget t { s.target t with consecutive := 0 }
  | .error => s

/-- The end of a transaction by an answer that fits it, and of a fence drain if this was the last transaction (R87, R113). -/
def State.endByAnswer (s : State) (t : TargetId) (f : AnswerFrame) : State :=
  ((s.noteAnswer t f.status).endTransaction t f.xid (answerOutcome f.status) f.data).finishDrain t

/-- The target port takes an answer: a stray, or the end of the transaction it fits, and the fresh decisions that the fall of its
window's count calls for come last (R17, R87, R92). -/
def State.takeAnswer (s : State) (t : TargetId) (f : AnswerFrame) : State :=
  match (s.target t).record f.xid with
  | none => s.countStray t
  | some r =>
    if answerFits f r then (s.endByAnswer t f).redecideAfterFalls s else s.countStray t

/-- TARGET_COMPLETION (R87): a completion frame from the target. No frame arrives on a link that is not UP (R80, R95). -/
def execTargetCompletion (t : TargetId) (f : AnswerFrame) (s : State) : Host.Outcome State Fault Refusal :=
  happening s fun s => if (s.target t).link = .up then s.takeAnswer t f else s

/-! ### Link changes (R80, R94) -/

/-- The link state of a target port changes. -/
def State.setLink (s : State) (t : TargetId) (l : TargetLink) : State := s.setTarget t { s.target t with link := l }

/-- Every outstanding transaction of the target ends TARGET_LOST, in rising xid order (R94, step 1). -/
def State.loseAll (s : State) (t : TargetId) : State := allXids.foldl (fun s x => s.endTransaction t x .targetLost []) s

/-- A target link down, its five steps in order (R94). -/
def State.linkLost (s : State) (t : TargetId) : State :=
  let lost := (s.setLink t .down).loseAll t
  let examined := (lost.enterState t .faulted).reexamine t
  let told := examined.postEach examined.upMasters (.targetFaulted t .linkDown)
  if (s.target t).state = .fencing then told.tellRequesters t (.fenceDone t .faulted) else told

/-- A target link down, and the fresh decisions that the falls call for come last (R17, R94). -/
def State.linkDown (s : State) (t : TargetId) : State := (s.linkLost t).redecideAfterFalls s

/-- TARGET_LINK_DOWN (R94): the loss of a link that is UP; a link that is not UP stays where it is (R80). -/
def execTargetLinkDown (t : TargetId) (s : State) : Host.Outcome State Fault Refusal :=
  happening s fun s => if (s.target t).link = .up then s.linkDown t else s

/-- TARGET_LINK_TRAINS (R80): a link in TRAINING or DOWN becomes UP, and the target state stays as it was. -/
def execTargetLinkTrains (t : TargetId) (s : State) : Host.Outcome State Fault Refusal :=
  happening s fun s => s.setLink t .up

/-! ### Settings and the query (R96, R97) -/

/-- A refused command at a target port: the result alone. -/
def refuseTarget (s : State) (r : Result) : State × Reply := (s, ⟨r, []⟩)

/-- SET_TARGET(target, timeout, threshold) at the target port (R96). -/
def setTargetEffect (s : State) (_ : MasterId) (a : Args) : State × Reply :=
  match argFin 4 (argNat a 0) with
  | none => refuseTarget s .badIndex
  | some t =>
    if Config.maxTimeout < argNat a 1 ∨ Config.maxThreshold < argNat a 2 then refuseTarget s .badField
    else (s.setTarget t { s.target t with timeout := argNat a 1, threshold := argNat a 2 }, ⟨.ok, []⟩)

/-- The result words of QUERY_TARGET (R97, R165). -/
def TargetPort.queryWords (p : TargetPort) : List Nat :=
  [p.state.code, p.link.code, p.outstanding, p.waiting.members.length, p.consecutive, p.strays, p.timeout, p.threshold]

/-- QUERY_TARGET(target, clear_strays) at the target port (R97). -/
def queryTargetEffect (s : State) (_ : MasterId) (a : Args) : State × Reply :=
  match argFin 4 (argNat a 0) with
  | none => refuseTarget s .badIndex
  | some t =>
    match argFlag (argNat a 1) with
    | none => refuseTarget s .badField
    | some clear =>
      (if clear then s.setTarget t { s.target t with strays := 0 } else s, ⟨.ok, (s.target t).queryWords⟩)

/-- SET_TARGET (R96). -/
def execSetTarget (s : State) : Host.Outcome State Fault Refusal :=
  happening s fun s => s.takeDelivered .setTarget setTargetEffect

/-- QUERY_TARGET (R97). -/
def execQueryTarget (s : State) : Host.Outcome State Fault Refusal :=
  happening s fun s => s.takeDelivered .queryTarget queryTargetEffect

end Sys2Proof.Machine
end

