-- ==== Sys2Proof/Machine/Fences.lean ====
section
/-! DEFINITION. Machine/Fences.lean: fencing and target recovery: FENCE_TARGET, UNFENCE_TARGET and FENCE_DONE (chapter 7). -/

namespace Sys2Proof.Machine

/-- The result words of the fence class: the target's state and its outstanding count (R109, R165). -/
def State.fenceReply (s : State) (t : TargetId) (r : Result) : State × Reply :=
  (s, ⟨r, [(s.target t).state.code, (s.target t).outstanding]⟩)

/-- A master joins a target's fence requester set (R110). -/
def State.joinRequesters (s : State) (t : TargetId) (m : MasterId) : State :=
  s.setTarget t { s.target t with requesters := (s.target t).requesters.insert m }

/-- A target that is ONLINE or FAULTED enters a fence: FENCING with the caller as requester while transactions are outstanding,
and FENCED with FENCE_DONE to the caller at once while none is; the waiting heads are re-examined before any notice (R111,
R112). -/
def State.enterFence (s : State) (t : TargetId) (m : MasterId) : State :=
  if (s.target t).outstanding = 0 then ((s.enterState t .fenced).reexamine t).post m (.fenceDone t .fenced)
  else ((s.enterState t .fencing).joinRequesters t m).reexamine t

/-- A fence of a target that is ONLINE or FAULTED, and the fresh decisions that the falls call for come last (R17, R111). -/
def State.startFence (s : State) (t : TargetId) (m : MasterId) : State := (s.enterFence t m).redecideAfterFalls s

/-- FENCE_TARGET(target) at the target port (R109, R111). -/
def fenceEffect (s : State) (m : MasterId) (a : Args) : State × Reply :=
  match argFin 4 (argNat a 0) with
  | none => refuseTarget s .badIndex
  | some t =>
    match (s.target t).state with
    | .online => (s.startFence t m).fenceReply t .accepted
    | .faulted => (s.startFence t m).fenceReply t .accepted
    | .fencing =>
      if (s.target t).requesters.get m then s.fenceReply t .already else (s.joinRequesters t m).fenceReply t .accepted
    | .fenced => s.fenceReply t .already

/-- The return of a target to ONLINE: its state, its consecutive count, and TARGET_RESTORED with the state it left to every UP
master (R116). -/
def State.restore (s : State) (t : TargetId) (left : TargetState) : State :=
  let back := s.setTarget t { s.target t with state := .online, consecutive := 0 }
  back.postEach back.upMasters (.targetRestored t left)

/-- UNFENCE_TARGET(target) at the target port (R109, R115). The pairs the spec says cannot be, a FENCING target with its link
DOWN and a FAULTED one with its link in TRAINING, are refused LINK_DOWN (log 15). -/
def unfenceEffect (s : State) (_ : MasterId) (a : Args) : State × Reply :=
  match argFin 4 (argNat a 0) with
  | none => refuseTarget s .badIndex
  | some t =>
    match (s.target t).state with
    | .online => s.fenceReply t .already
    | .fencing =>
      if (s.target t).link = .down then s.fenceReply t .linkDown
      else ((s.tellRequesters t (.fenceCancelled t)).restore t .fencing).fenceReply t .accepted
    | .fenced =>
      if (s.target t).link = .down then s.fenceReply t .linkDown else (s.restore t .fenced).fenceReply t .accepted
    | .faulted =>
      if (s.target t).link = .up then (s.restore t .faulted).fenceReply t .accepted else s.fenceReply t .linkDown

/-- FENCE_TARGET (R111). -/
def execFenceTarget (s : State) : Host.Outcome State Fault Refusal :=
  happening s fun s => s.takeDelivered .fenceTarget fenceEffect

/-- UNFENCE_TARGET (R115). -/
def execUnfenceTarget (s : State) : Host.Outcome State Fault Refusal :=
  happening s fun s => s.takeDelivered .unfenceTarget unfenceEffect

/-- FENCE_DONE (R113): a FENCING target with nothing outstanding becomes FENCED and tells its requesters. Every end that brings
the outstanding count of a FENCING target to 0 does this in its own happening (log 7). -/
def execFenceDone (t : TargetId) (s : State) : Host.Outcome State Fault Refusal :=
  happening s fun s => s.finishDrain t

end Sys2Proof.Machine
end

