-- ==== Sys2Proof/Machine/Grants.lean ====
section
/-! DEFINITION. Machine/Grants.lean: the xid arbiter of a target port and the forwarding of a transaction: XID_GRANT and
MIRROR_XID_GRANT (5.3, 6.2). -/

namespace Sys2Proof.Machine

/-! ### Who may be granted (R84) -/

/-- The target is ONLINE with its link UP and a free xid (R84). -/
def TargetPort.canGrant (p : TargetPort) : Bool :=
  decide (p.state = .online) && decide (p.link = .up) && !p.freeList.isEmpty

/-- The other target of a two-leg mirror write. -/
def otherTarget (t1 t2 t : TargetId) : TargetId := if t1 = t then t2 else t1

/-- A head bound by a route may be granted an xid at target `t`: a head with one target here always, a two-leg mirror write
only if its other target can grant too (R84, R100). -/
def State.routeEligible (s : State) (t : TargetId) (r : BoundRoute) : Bool :=
  match r with
  | .single t' _ => decide (t' = t)
  | .mirror t1 _ t2 _ none => (decide (t1 = t) || decide (t2 = t)) && (s.target (otherTarget t1 t2 t)).canGrant
  | .mirror t1 _ t2 _ (some k) => decide (sentTarget t1 t2 k = t)

/-- The binding of a master's head, if it is bound (R148). -/
def State.headBinding (s : State) (m : MasterId) : Option Binding :=
  match s.head m with
  | some r =>
    match r.binding with
    | .bound b => some b
    | .unbound _ => none
  | none => none

/-- The master is in the waiting set of `t` and its bound head may be granted an xid there (R84, R157). -/
def State.eligible (s : State) (t : TargetId) (m : MasterId) : Bool :=
  (s.target t).waiting.get m &&
    match s.headBinding m with
    | some b => s.routeEligible t b.route
    | none => false

/-- The master the arbiter of `t` grants next: the first eligible one in turn after last served, while the target can grant
(R84). -/
def State.nextGrant (s : State) (t : TargetId) : Option MasterId :=
  if (s.target t).canGrant then (turnOrder (s.target t).lastServed).find? (s.eligible t) else none

/-! ### Forwarding (R85, R100, R101) -/

/-- The outstanding record of a forwarded transaction, with age 0 and no count owed (R82, R85). -/
def newRecord (m : MasterId) (r : Request) (b : Binding) (address : Word) (leg : Option LegRef) : OutRecord where
  master := m
  tag := r.tag
  generation := b.generation
  window := b.window
  kind := r.kind
  address := address
  length := r.length
  age := 0
  leg := leg
  owed := false

/-- Target port `t` gives its next xid to a transaction of master `m`: the record is made, the frame leaves, the master leaves
the waiting set and is last served (R85, R100). -/
def State.forward (s : State) (t : TargetId) (x : Xid) (m : MasterId) (r : Request) (record : OutRecord) : State :=
  (s.setTarget t
    { s.target t with
      freeList := (s.target t).freeList.tail
      records := (s.target t).records.put x (some record)
      waiting := (s.target t).waiting.erase m
      lastServed := m }).sendToTarget t ⟨x, r.kind, record.address, r.length, r.data⟩

/-- A mirror record is held at a target port (R101). -/
def State.holdMirror (s : State) (t : TargetId) (r : MirrorRecord) : State :=
  s.setTarget t { s.target t with mirrors := (s.target t).mirrors ++ [r] }

/-- The mirror record of a skipped-leg write, its sent leg PENDING (R101). -/
def skippedRecord (m : MasterId) (tag : Tag) (b : Binding) (w : WindowId) (t1 t2 : TargetId) (k : LegNo) (x : Xid) :
    MirrorRecord :=
  match k with
  | .one => ⟨m, tag, b.generation, w, some t1, ⟨t1, none, .skipped⟩, ⟨t2, some x, .pending⟩⟩
  | .two => ⟨m, tag, b.generation, w, some t2, ⟨t1, some x, .pending⟩, ⟨t2, none, .skipped⟩⟩

/-- The number of the sent leg of a skipped-leg write. -/
def otherLeg (k : LegNo) : LegNo :=
  match k with
  | .one => .two
  | .two => .one

/-- The translated address of the sent leg of a skipped-leg write (R99). -/
def sentAddress (a1 a2 : Word) (skipped : LegNo) : Word :=
  match skipped with
  | .one => a2
  | .two => a1

/-- A head with one target is granted an xid at `t` and forwarded: a single-target request, or a skipped-leg mirror write, whose
mirror record is then made at `t` (R85, R101). -/
def State.grantOne (s : State) (t : TargetId) (x : Xid) (m : MasterId) (r : Request) (b : Binding) : State :=
  match b.route with
  | .single _ a => (s.forward t x m r (newRecord m r b a none)).leaveHead m
  | .mirror t1 a1 t2 a2 (some k) =>
    let sent := (s.forward t x m r (newRecord m r b (sentAddress a1 a2 k) (some ⟨t, otherLeg k⟩))).leaveHead m
    match b.window with
    | some w => sent.holdMirror t (skippedRecord m r.tag b w t1 t2 k x)
    | none => sent
  | .mirror _ _ _ _ none => s

/-- A two-leg mirror write is granted the next xid of both its targets and both legs are forwarded, its mirror record being made
at the primary's port (R100, R101). -/
def State.grantBoth (s : State) (m : MasterId) (r : Request) (b : Binding) : State :=
  match b.route with
  | .mirror t1 a1 t2 a2 none =>
    match (s.target t1).freeList, (s.target t2).freeList with
    | x1 :: _, x2 :: _ =>
      let sent := ((s.forward t1 x1 m r (newRecord m r b a1 (some ⟨t1, .one⟩))).forward t2 x2 m r
        (newRecord m r b a2 (some ⟨t1, .two⟩))).leaveHead m
      match b.window with
      | some w =>
        sent.holdMirror t1
          ⟨m, r.tag, b.generation, w, none, ⟨t1, some x1, .pending⟩, ⟨t2, some x2, .pending⟩⟩
      | none => sent
    | _, _ => s
  | _ => s

/-- The route is a two-leg mirror write's. -/
def BoundRoute.twoLeg (r : BoundRoute) : Bool :=
  match r with
  | .mirror _ _ _ _ none => true
  | .mirror _ _ _ _ (some _) => false
  | .single _ _ => false

/-- XID_GRANT (R85): the arbiter's next grant at `t`, when the master whose turn it is has a head with one target here. -/
def State.xidGrant (s : State) (t : TargetId) : State :=
  match s.nextGrant t with
  | none => s
  | some m =>
    match s.head m, s.headBinding m, (s.target t).freeList with
    | some r, some b, x :: _ => if b.route.twoLeg then s else s.grantOne t x m r b
    | _, _, _ => s

/-- MIRROR_XID_GRANT (R100): the arbiter's next grant at `t`, when the master whose turn it is has a two-leg mirror write. -/
def State.mirrorXidGrant (s : State) (t : TargetId) : State :=
  match s.nextGrant t with
  | none => s
  | some m =>
    match s.head m, s.headBinding m with
    | some r, some b => if b.route.twoLeg then s.grantBoth m r b else s
    | _, _ => s

/-- XID_GRANT (R85). -/
def execXidGrant (t : TargetId) (s : State) : Host.Outcome State Fault Refusal := happening s fun s => s.xidGrant t

/-- MIRROR_XID_GRANT (R100). -/
def execMirrorXidGrant (t : TargetId) (s : State) : Host.Outcome State Fault Refusal :=
  happening s fun s => s.mirrorXidGrant t

end Sys2Proof.Machine
end

