-- ==== Sys2Proof/Machine/Engine.lean ====
section
/-! DEFINITION. Machine/Engine.lean: the command engine: the take of a pending slot, the class check, and the setup right
commands that the engine carries out itself (chapter 8). -/

namespace Sys2Proof.Machine

/-! ### Classes and owners (R128) -/

/-- The permission classes (R128). -/
inductive CommandClass where
  | setup
  | fence
  | any
deriving DecidableEq, Repr

/-- The class of a command (R128). -/
def Command.permission : Command → CommandClass
  | .defineWindow | .setRoute | .setAccess | .enableWindow | .disableWindow | .retireWindow | .setDefault | .setTick
  | .setTarget | .revoke | .handSetup | .dropSetup | .closeSetup => .setup
  | .fenceTarget | .unfenceTarget => .fence
  | .takeSetup | .claim | .renew | .release | .withdraw | .queryWindow | .queryTarget | .querySetup => .any

/-- The class check for a caller: nothing when the command is permitted, or the refusal (R128). -/
def classCheck (setup : SetupRight) (caller : MasterId) (k : CommandClass) : Option Result :=
  match k, setup with
  | .setup, .held m => if m = caller then none else some .notSetup
  | .setup, .open => some .notSetup
  | .setup, .closed => some .setupClosed
  | .fence, .held m => if m = caller then none else some .notSetup
  | .fence, .open => none
  | .fence, .closed => none
  | .any, _ => none

/-- The blocks that take a delivered command, by the part of a port cleanup they take (R128, R135, R158). A command of the
engine's own is delivered to no block; the time base has no part in a cleanup. The arguments name the target port; a target
command whose number is above 3 names none: no target port's part waits for it, and it is taken to be refused BAD_INDEX at any
time (R97, R109; the model's choice, log 25). -/
def Command.owners (c : Command) (a : Args) : List CleanupBlock :=
  match c with
  | .defineWindow | .setRoute | .setAccess | .enableWindow | .disableWindow | .setDefault => [.windows]
  | .retireWindow | .queryWindow => [.windows, .leases]
  | .claim | .renew | .release | .revoke | .withdraw => [.leases]
  | .setTarget | .queryTarget | .fenceTarget | .unfenceTarget => ((argFin 4 (argNat a 0)).map .target).toList
  | .setTick => []
  | .takeSetup | .handSetup | .dropSetup | .closeSetup | .querySetup => []

/-- The engine carries the command out itself (R128, R133). -/
def Command.engineOwned (c : Command) : Bool :=
  match c with
  | .takeSetup | .handSetup | .dropSetup | .closeSetup | .querySetup => true
  | .defineWindow | .setRoute | .setAccess | .enableWindow | .disableWindow | .setDefault | .retireWindow | .queryWindow
  | .claim | .renew | .release | .revoke | .withdraw | .setTarget | .queryTarget | .fenceTarget | .unfenceTarget
  | .setTick => false

/-! ### The setup right commands (R122 to R127) -/

/-- The setup right changes. -/
def State.setSetup (s : State) (r : SetupRight) : State := s.setEngine { s.engine with setup := r }

/-- TAKE_SETUP (R122); the result words carry the holder after the command. -/
def State.takeSetup (s : State) (caller : MasterId) : State × Reply :=
  match s.engine.setup with
  | .open => (s.setSetup (.held caller), ⟨.ok, [masterField (some caller)]⟩)
  | .held m => (s, ⟨if m = caller then .already else .setupHeld, [masterField (some m)]⟩)
  | .closed => (s, ⟨.setupClosed, [masterField none]⟩)

/-- HAND_SETUP(m′) (R123). -/
def State.handSetup (s : State) (caller : MasterId) (a : Args) : State × Reply :=
  match argFin 4 (argNat a 0) with
  | none => (s, ⟨.badField, []⟩)
  | some m =>
    if m = caller then (s, ⟨.badField, []⟩)
    else if (s.port m).link = .down then (s, ⟨.portDown, []⟩)
    else ((s.setSetup (.held m)).post m (.setupHanded caller), ⟨.ok, [masterField (some m)]⟩)

/-- QUERY_SETUP (R127). -/
def State.querySetup (s : State) (caller : MasterId) : State × Reply :=
  (s, ⟨.ok, [s.engine.setup.code, masterField s.engine.setup.holder, caller.val]⟩)

/-- A command of the engine's own (R122 to R127); every other command is the owning block's. -/
def State.engineEffect (s : State) (c : Command) (caller : MasterId) (a : Args) : State × Reply :=
  match c with
  | .takeSetup => s.takeSetup caller
  | .handSetup => s.handSetup caller a
  | .dropSetup => (s.setSetup .open, ⟨.ok, []⟩)
  | .closeSetup => (s.setSetup .closed, ⟨.ok, []⟩)
  | .querySetup => s.querySetup caller
  | .defineWindow | .setRoute | .setAccess | .enableWindow | .disableWindow | .setDefault | .retireWindow | .queryWindow
  | .claim | .renew | .release | .revoke | .withdraw | .setTarget | .queryTarget | .fenceTarget | .unfenceTarget
  | .setTick => (s, ⟨.badCommand, []⟩)

/-! ### The take (R132, R133) -/

/-- The command is one that its master's cleanup drops if it is still PENDING when the cleanup begins, since it would reach the
lease manager (R59, R128) or is FENCE_TARGET (R120). -/
def Command.droppedAtCleanup (c : Command) : Bool :=
  match c with
  | .claim | .renew | .release | .withdraw | .revoke | .retireWindow | .queryWindow | .fenceTarget => true
  | .takeSetup | .handSetup | .dropSetup | .closeSetup | .querySetup | .defineWindow | .setRoute | .setAccess | .enableWindow
  | .disableWindow | .setDefault | .setTick | .setTarget | .queryTarget | .unfenceTarget => false

/-- The block has taken its part of the cleanup under way (R158). -/
def CleanupState.hasTaken (c : CleanupState) (b : CleanupBlock) : Bool :=
  match c with
  | .clear => false
  | .underWay left => !left.contains b

/-- A take now would deliver the command to a block that has taken its part of the master's cleanup, and so would put the cleanup
before the command there, against R135 and R158 (the reading, log 12). A command that its class refuses is delivered nowhere
(R133). -/
def State.deliveredTooLate (s : State) (m : MasterId) (c : Command) : Bool :=
  (classCheck s.engine.setup m c.permission).isNone &&
    (c.owners (s.slot m).args).any fun b => (s.port m).cleanup.hasTaken b

/-- The slot's command is dropped already, since its master's cleanup is under way (R59, R120, R135, log 12). -/
def State.dropped (s : State) (m : MasterId) : Bool :=
  decide ((s.port m).cleanup ≠ .clear) &&
    (commandOf (s.slot m).code).any fun c => c.droppedAtCleanup || s.deliveredTooLate m c

/-- The slot is one the engine may take: PENDING (R132), and not with a command that its master's cleanup has dropped (R59,
R120, R135, log 12). -/
def State.takeable (s : State) (m : MasterId) : Bool := decide ((s.slot m).state = .pending) && !s.dropped m

/-- The master whose slot the engine takes next, while no command is under way: the first takeable one in turn after last
served (R132). -/
def State.nextTake (s : State) : Option MasterId :=
  if s.engine.underWay.isNone then (turnOrder s.engine.lastServed).find? s.takeable else none

/-- The slot of a command that ends within the take shows DONE with its result (R133). -/
def State.endTake (s : State) (m : MasterId) (r : Reply) : State := s.setSlot m ((s.slot m).finish r)

/-- The command is delivered to its owning block and is under way, its slot EXECUTING (R132, R133). -/
def State.deliver (s : State) (m : MasterId) (c : Command) : State :=
  s.setEngine { s.engine with
    slots := s.engine.slots.put m { s.slot m with state := .executing }
    underWay := some ⟨m, c, (s.slot m).args, false⟩ }

/-- The engine takes the slot of master `m`: the command code, the class, and then the command itself or its delivery (R133). -/
def State.takeSlot (s : State) (m : MasterId) : State :=
  let served := s.setEngine { s.engine with lastServed := m }
  match commandOf (s.slot m).code with
  | none => served.endTake m ⟨.badCommand, []⟩
  | some c =>
    match classCheck s.engine.setup m c.permission with
    | some refused => served.endTake m ⟨refused, []⟩
    | none =>
      if c.engineOwned then
        let taken := served.engineEffect c m (s.slot m).args
        taken.1.endTake m taken.2
      else served.deliver m c

/-- COMMAND_TAKE (R133): the idle engine takes the next PENDING slot in turn. -/
def execCommandTake (s : State) : Host.Outcome State Fault Refusal :=
  happening s fun s =>
    match s.nextTake with
    | some m => s.takeSlot m
    | none => s

end Sys2Proof.Machine
end

