-- ==== Sys2Proof/Machine/Leases.lean ====
section
/-! DEFINITION. Machine/Leases.lean: the lease manager's happenings: the countdowns of leases and waiting claims, EXPIRED,
HANDOFF and CLAIM_LAPSED, and the lease commands CLAIM, RENEW, RELEASE, WITHDRAW and REVOKE (chapters 3 and 4). -/

namespace Sys2Proof.Machine

/-! ### Countdowns (R50, R51, R68) -/

/-- The countdown of a lease posts its warning when it leaves this many ticks (R50). -/
def Lease.warns (l : Lease) (remaining : Nat) : Bool :=
  decide (remaining = l.warnAt) && decide (l.warnAt ≠ 0) && !l.warned

/-- The lease after a countdown (R50). -/
def Lease.countDown (l : Lease) : Lease :=
  { l with remaining := l.remaining - 1, warned := l.warned || l.warns (l.remaining - 1), owed := false }

/-- The expiry of a window's lease: the record is removed, EXPIRED goes to the holder, and the window is handed on (R51). -/
def State.expireLease (s : State) (w : WindowId) (holder : MasterId) : State :=
  ((s.setLease w none).post holder (.expired w)).handOff w

/-- The countdown that the lease on `w` owes, if it owes one: remaining falls by one, LEASE_WARNING is posted at warn_at, and
at 0 the lease expires in the same countdown (R50, R51). That holds too for a lease that a RENEW taken first has just set to a
duration of warn_at + 1, where a row of R52's table has the countdown post no warning (the model's choice, log 24). -/
def State.countLease (s : State) (w : WindowId) : State :=
  match s.lease w with
  | none => s
  | some l =>
    if l.owed then
      let counted := s.setLease w (some l.countDown)
      let told :=
        if l.warns (l.remaining - 1) then counted.post l.holder (.leaseWarning w (l.remaining - 1)) else counted
      if l.remaining - 1 = 0 then told.expireLease w l.holder else told
    else s

/-- The waiting claim of a master for a window, if it has one (R64). -/
def State.claimOf (s : State) (w : WindowId) (m : MasterId) : Option WaitingClaim := s.claims.find? fun c => c.isFor w m

/-- A master's waiting claim for a window leaves the pool, and its slot is free (R63, R64). -/
def State.removeClaim (s : State) (w : WindowId) (m : MasterId) : State :=
  s.setClaims (s.claims.eraseP fun c => c.isFor w m)

/-- The countdown that a waiting claim owes, if it owes one: a wait limit falls by one, and at 0 the claim lapses in the same
countdown with CLAIM_LAPSED, WAIT_LIMIT (R68). -/
def State.countClaim (s : State) (w : WindowId) (m : MasterId) : State :=
  match s.claimOf w m with
  | none => s
  | some c =>
    if c.owed then
      if c.waitRemaining.map (· - 1) = some 0 then (s.removeClaim w m).post m (.claimLapsed w .waitLimit)
      else s.setClaims (s.claims.map fun d =>
        if d.isFor w m then { d with waitRemaining := d.waitRemaining.map (· - 1), owed := false } else d)
    else s

/-- The lease on `w` owes a countdown that brings its remaining time to 0 (R51). -/
def State.expiryDue (s : State) (w : WindowId) : Bool :=
  match s.lease w with
  | some l => l.owed && decide (l.remaining - 1 = 0)
  | none => false

/-- The claim of `m` for `w` owes a countdown that brings its wait remaining to 0 (R68). -/
def State.lapseDue (s : State) (w : WindowId) (m : MasterId) : Bool :=
  match s.claimOf w m with
  | some c => c.owed && decide (c.waitRemaining.map (· - 1) = some 0)
  | none => false

/-- EXPIRED (R51): the countdown of a lease that brings its remaining time to 0. -/
def execExpired (w : WindowId) (s : State) : Host.Outcome State Fault Refusal :=
  happening s fun s => if s.expiryDue w then s.countLease w else s

/-- HANDOFF (R58): the oldest waiting claim of an unheld window becomes its lease. Every end of a lease does this in its own
happening (log 7). -/
def execHandoff (w : WindowId) (s : State) : Host.Outcome State Fault Refusal :=
  happening s fun s => s.handOff w

/-- CLAIM_LAPSED (R68): the countdown of a waiting claim that brings its wait remaining to 0. -/
def execClaimLapsed (w : WindowId) (m : MasterId) (s : State) : Host.Outcome State Fault Refusal :=
  happening s fun s => if s.lapseDue w m then s.countClaim w m else s

/-! ### Lease commands (R47) -/

/-- A refused command: the result alone. -/
def refusedWith (s : State) (r : Result) : State × Reply := (s, ⟨r, []⟩)

/-- The window takes no claim in its state (R5, R48). -/
def WindowState.takesClaims (st : WindowState) : Bool := decide (st = .defined) || decide (st = .active)

/-- The range checks of CLAIM's duration, wait_limit and warn_at (R48, check 2). -/
def claimFieldsOk (duration waitLimit warnAt : Nat) : Bool :=
  decide (1 ≤ duration) && decide (duration ≤ Config.maxDuration)
    && decide (warnAt ≤ Config.maxWarnAt) && decide (warnAt < duration) && decide (waitLimit ≤ Config.noWaitLimit)

/-- The wait remaining a claim is queued with: absent for the limit that means no limit (R65). -/
def waitOf (waitLimit : Nat) : Option Nat := if waitLimit = Config.noWaitLimit then none else some waitLimit

/-- A CLAIM that has passed checks 1 to 6 on a window held by another master: BUSY_WINDOW, QUEUE_FULL or QUEUED (R65). -/
def State.joinQueue (s : State) (m : MasterId) (w : WindowId) (kind : LeaseKind) (duration waitLimit warnAt : Nat) :
    State × Reply :=
  if waitLimit = 0 then refusedWith s .busyWindow
  else if Config.poolSlots ≤ s.claims.length then refusedWith s .queueFull
  else
    (s.setClaims (s.claims ++ [⟨w, m, kind, duration, warnAt, waitOf waitLimit, false⟩]),
      ⟨.queued, [w.val, (s.queueOf w).length + 1]⟩)

/-- CLAIM(window, kind, duration, wait_limit, warn_at) at the lease manager (R48, R65). -/
def claimEffect (s : State) (m : MasterId) (a : Args) : State × Reply :=
  match argFin 48 (argNat a 0) with
  | none => refusedWith s .badIndex
  | some w =>
    match argLeaseKind (argNat a 1) with
    | none => refusedWith s .badField
    | some kind =>
      if !claimFieldsOk (argNat a 2) (argNat a 3) (argNat a 4) then refusedWith s .badField
      else if !(s.window w).state.takesClaims then refusedWith s .badState
      else if (s.window w).policy = .none then refusedWith s .notLeasable
      else if s.holder w = some m then refusedWith s .held
      else if (s.claimOf w m).isSome then refusedWith s .duplicate
      else if s.holder w = none then
        (s.setLease w (some (freshLease m kind (argNat a 2) (argNat a 4))), ⟨.granted, [w.val, argNat a 2]⟩)
      else s.joinQueue m w kind (argNat a 2) (argNat a 3) (argNat a 4)

/-- The renewal ceiling refuses a renewal: a claim waits, the ceiling is not 0 and the renewals have reached it (R53, R54). -/
def State.ceilingRefuses (s : State) (w : WindowId) (l : Lease) : Bool :=
  !(s.queueOf w).isEmpty && decide ((s.window w).ceiling ≠ 0) && decide ((s.window w).ceiling ≤ l.renewals)

/-- The lease after a renewal to a duration, 0 meaning its own (R53). -/
def Lease.renewed (l : Lease) (duration : Nat) : Lease :=
  { l with
    duration := if duration = 0 then l.duration else duration
    remaining := if duration = 0 then l.duration else duration
    renewals := min (l.renewals + 1) Config.maxRenewals
    warned := false }

/-- RENEW(window, duration) at the lease manager (R53). -/
def renewEffect (s : State) (m : MasterId) (a : Args) : State × Reply :=
  match argFin 48 (argNat a 0) with
  | none => refusedWith s .badIndex
  | some w =>
    if Config.maxDuration < argNat a 1 then refusedWith s .badField
    else
      match s.lease w with
      | none => refusedWith s .notHolder
      | some l =>
        if l.holder ≠ m then refusedWith s .notHolder
        else if argNat a 1 ≠ 0 ∧ argNat a 1 ≤ l.warnAt then refusedWith s .badField
        else if s.ceilingRefuses w l then refusedWith s .ceiling
        else
          (s.setLease w (some (l.renewed (argNat a 1))),
            ⟨.ok, [(l.renewed (argNat a 1)).remaining, (l.renewed (argNat a 1)).renewals]⟩)

/-- RELEASE(window) at the lease manager (R55); the result words carry the master handed to, or none. -/
def releaseEffect (s : State) (m : MasterId) (a : Args) : State × Reply :=
  match argFin 48 (argNat a 0) with
  | none => refusedWith s .badIndex
  | some w =>
    if s.holder w ≠ some m then refusedWith s .notHolder
    else (s.endLease w, ⟨.ok, [masterField ((s.endLease w).holder w)]⟩)

/-- WITHDRAW(window) at the lease manager (R71). -/
def withdrawEffect (s : State) (m : MasterId) (a : Args) : State × Reply :=
  match argFin 48 (argNat a 0) with
  | none => refusedWith s .badIndex
  | some w =>
    if (s.claimOf w m).isSome then (s.removeClaim w m, ⟨.ok, []⟩) else refusedWith s .notWaiting

/-- REVOKE(window) at the lease manager: REVOKED to the holder before the handoff's GRANTED (R56). -/
def revokeEffect (s : State) (m : MasterId) (a : Args) : State × Reply :=
  match argFin 48 (argNat a 0) with
  | none => refusedWith s .badIndex
  | some w =>
    match s.holder w with
    | none => refusedWith s .notHeld
    | some h => (((s.setLease w none).post h (.revoked w m)).handOff w, ⟨.ok, []⟩)

/-- CLAIM (R48). -/
def execClaim (s : State) : Host.Outcome State Fault Refusal := happening s fun s => s.takeDelivered .claim claimEffect

/-- RENEW (R53). -/
def execRenew (s : State) : Host.Outcome State Fault Refusal := happening s fun s => s.takeDelivered .renew renewEffect

/-- RELEASE (R55). -/
def execRelease (s : State) : Host.Outcome State Fault Refusal :=
  happening s fun s => s.takeDelivered .release releaseEffect

/-- WITHDRAW (R71). -/
def execWithdraw (s : State) : Host.Outcome State Fault Refusal :=
  happening s fun s => s.takeDelivered .withdraw withdrawEffect

/-- REVOKE (R56). -/
def execRevoke (s : State) : Host.Outcome State Fault Refusal := happening s fun s => s.takeDelivered .revoke revokeEffect

end Sys2Proof.Machine
end

