-- ==== Sys2Proof/Machine/Windows.lean ====
section
/-! DEFINITION. Machine/Windows.lean: the window commands and WINDOW_RETIRED (chapter 1). -/

namespace Sys2Proof.Machine

/-- A window command is taken at the window table, whatever its result: after its effect every head held at the count limit is
decided afresh (R17, log 6). -/
def tableTaken (p : State × Reply) : State × Reply := (p.1.redecideHeads, p.2)

/-- The state with a window record replaced, and the result OK. -/
def State.defineAs (s : State) (w : WindowId) (r : WindowRecord) : State × Reply := (s.setWindow w r, ⟨.ok, []⟩)

/-- The settings of a window that DEFINE_WINDOW and SET_ACCESS give, if every field is one the command defines (R6, R164):
policy, read set, write set, contention flag and ceiling. -/
def argAccess (policy readSet writeSet contention ceiling : Nat) :
    Option (LeasePolicy × MasterSet × MasterSet × Bool × Nat) :=
  match argPolicy policy, argSet readSet, argSet writeSet, argFlag contention with
  | some p, some rs, some ws, some ct => if ceiling ≤ Config.maxRenewals then some (p, rs, ws, ct, ceiling) else none
  | _, _, _, _ => none

/-- DEFINE_WINDOW(index, base, size_log2, tier, policy, read set, write set, contention, ceiling) at the window table (R7). -/
def defineWindowEffect (s : State) (_ : MasterId) (a : Args) : State × Reply :=
  match argFin 48 (argNat a 0) with
  | none => refusedWith s .badIndex
  | some w =>
    match argAccess (argNat a 4) (argNat a 5) (argNat a 6) (argNat a 7) (argNat a 8) with
    | none => refusedWith s .badField
    | some (policy, readSet, writeSet, contention, ceiling) =>
      if 3 < argNat a 3 then refusedWith s .badField
      else if (s.window w).state ≠ .free then refusedWith s .slotInUse
      else if !geometryOk (a.get 1) (argNat a 2) then refusedWith s .badGeometry
      else s.defineAs w { s.window w with
        state := .defined, base := a.get 1, sizeLog2 := argNat a 2, tier := argNat a 3, policy := policy,
        readSet := readSet, writeSet := writeSet, contention := contention, ceiling := ceiling,
        readRoute := .deny, writeRoute := .deny }

/-- SET_ROUTE(index, direction, kind, t1, base1, t2, base2) at the window table (R8). -/
def setRouteEffect (s : State) (_ : MasterId) (a : Args) : State × Reply :=
  match argFin 48 (argNat a 0) with
  | none => refusedWith s .badIndex
  | some w =>
    match argDirection (argNat a 1) with
    | none => refusedWith s .badField
    | some .read =>
      match argReadRoute (argNat a 2) (argNat a 3) (a.get 4) with
      | none => refusedWith s .badField
      | some r =>
        if (s.window w).state ≠ .defined then refusedWith s .badState
        else if !r.geometryOk (s.window w).sizeLog2 then refusedWith s .badGeometry
        else s.defineAs w { s.window w with readRoute := r }
    | some .write =>
      match argWriteRoute (argNat a 2) (argNat a 3) (a.get 4) (argNat a 5) (a.get 6) with
      | none => refusedWith s .badField
      | some r =>
        if (s.window w).state ≠ .defined then refusedWith s .badState
        else if !r.geometryOk (s.window w).sizeLog2 then refusedWith s .badGeometry
        else s.defineAs w { s.window w with writeRoute := r }

/-- SET_ACCESS(index, read set, write set, policy, contention, ceiling) at the window table (R9). -/
def setAccessEffect (s : State) (_ : MasterId) (a : Args) : State × Reply :=
  match argFin 48 (argNat a 0) with
  | none => refusedWith s .badIndex
  | some w =>
    match argAccess (argNat a 3) (argNat a 1) (argNat a 2) (argNat a 4) (argNat a 5) with
    | none => refusedWith s .badField
    | some (policy, readSet, writeSet, contention, ceiling) =>
      if (s.window w).state ≠ .defined then refusedWith s .badState
      else if policy = .none ∧ (s.lease w).isSome then refusedWith s .leased
      else s.defineAs w { s.window w with
        policy := policy, readSet := readSet, writeSet := writeSet, contention := contention, ceiling := ceiling }

/-- ENABLE_WINDOW(index) at the window table (R10). -/
def enableWindowEffect (s : State) (_ : MasterId) (a : Args) : State × Reply :=
  match argFin 48 (argNat a 0) with
  | none => refusedWith s .badIndex
  | some w =>
    if (s.window w).state ≠ .defined then refusedWith s .badState else s.defineAs w { s.window w with state := .active }

/-- DISABLE_WINDOW(index) at the window table (R11). -/
def disableWindowEffect (s : State) (_ : MasterId) (a : Args) : State × Reply :=
  match argFin 48 (argNat a 0) with
  | none => refusedWith s .badIndex
  | some w =>
    if (s.window w).state ≠ .active then refusedWith s .badState else s.defineAs w { s.window w with state := .defined }

/-- The lease manager's part of a forced retirement: the lease ends with REVOKED to its holder, and every waiting claim for the
window is removed, oldest first, with CLAIM_LAPSED, RETIRED; nobody is handed the window (R13, R73). -/
def State.forceOut (s : State) (w : WindowId) (caller : MasterId) : State :=
  let revoked :=
    match s.holder w with
    | some h => (s.setLease w none).post h (.revoked w caller)
    | none => s
  (s.queueOf w).foldl (fun s c => s.post c.claimant (.claimLapsed w .retired))
    (revoked.setClaims (s.claims.filter fun c => decide (c.window ≠ w)))

/-- The change of state of a retirement: FREE at once with WINDOW_RETIRED to the caller at a count of 0, and RETIRING with the
caller as retiring master above 0 (R12). -/
def State.leaveTable (s : State) (w : WindowId) (caller : MasterId) : State × Reply :=
  if (s.window w).inFlight = 0 then
    ((s.setWindow w WindowRecord.freeRecord).post caller (.windowRetired w), ⟨.ok, []⟩)
  else (s.setWindow w { s.window w with state := .retiring, retiringMaster := some caller }, ⟨.accepted, []⟩)

/-- RETIRE_WINDOW(index, force) at the window table and the lease manager together (R12, R13). -/
def retireWindowEffect (s : State) (m : MasterId) (a : Args) : State × Reply :=
  match argFin 48 (argNat a 0) with
  | none => refusedWith s .badIndex
  | some w =>
    match argFlag (argNat a 1) with
    | none => refusedWith s .badField
    | some force =>
      if !(s.window w).state.takesClaims then refusedWith s .badState
      else if force then (s.forceOut w m).leaveTable w m
      else if (s.lease w).isSome then refusedWith s .leased
      else s.leaveTable w m

/-- SET_DEFAULT(direction, kind, t) at the window table (R15). -/
def setDefaultEffect (s : State) (_ : MasterId) (a : Args) : State × Reply :=
  match argDirection (argNat a 0), argDefaultRoute (argNat a 1) (argNat a 2) with
  | some .read, some r => ({ s with defaultRead := r }, ⟨.ok, []⟩)
  | some .write, some r => ({ s with defaultWrite := r }, ⟨.ok, []⟩)
  | _, _ => refusedWith s .badField

/-- The code of the kind of a window's lease, 0 when it is not held (R14, R165). -/
def leaseKindField (l : Option Lease) : Nat :=
  match l with
  | some l => l.kind.code
  | none => 0

/-- The remaining time of a window's lease, 0 when it is not held (R14). -/
def leaseRemaining (l : Option Lease) : Nat :=
  match l with
  | some l => l.remaining
  | none => 0

/-- The result words of QUERY_WINDOW (R14, R165). -/
def State.windowWords (s : State) (w : WindowId) : List Nat :=
  [(s.window w).state.code, (s.window w).tier, masterField (s.holder w), leaseKindField (s.lease w),
   leaseRemaining (s.lease w), (s.queueOf w).length, (s.window w).inFlight]

/-- QUERY_WINDOW(index) at the window table and the lease manager together (R14). -/
def queryWindowEffect (s : State) (_ : MasterId) (a : Args) : State × Reply :=
  match argFin 48 (argNat a 0) with
  | none => refusedWith s .badIndex
  | some w => (s, ⟨.ok, s.windowWords w⟩)

/-- DEFINE_WINDOW (R7). -/
def execDefineWindow (s : State) : Host.Outcome State Fault Refusal :=
  happening s fun s => s.takeDelivered .defineWindow fun s m a => tableTaken (defineWindowEffect s m a)

/-- SET_ROUTE (R8). -/
def execSetRoute (s : State) : Host.Outcome State Fault Refusal :=
  happening s fun s => s.takeDelivered .setRoute fun s m a => tableTaken (setRouteEffect s m a)

/-- SET_ACCESS (R9). -/
def execSetAccess (s : State) : Host.Outcome State Fault Refusal :=
  happening s fun s => s.takeDelivered .setAccess fun s m a => tableTaken (setAccessEffect s m a)

/-- ENABLE_WINDOW (R10). -/
def execEnableWindow (s : State) : Host.Outcome State Fault Refusal :=
  happening s fun s => s.takeDelivered .enableWindow fun s m a => tableTaken (enableWindowEffect s m a)

/-- DISABLE_WINDOW (R11). -/
def execDisableWindow (s : State) : Host.Outcome State Fault Refusal :=
  happening s fun s => s.takeDelivered .disableWindow fun s m a => tableTaken (disableWindowEffect s m a)

/-- RETIRE_WINDOW (R12). -/
def execRetireWindow (s : State) : Host.Outcome State Fault Refusal :=
  happening s fun s => s.takeDelivered .retireWindow fun s m a => tableTaken (retireWindowEffect s m a)

/-- WINDOW_RETIRED (R19): a RETIRING window whose in-flight count is 0 becomes FREE. Every fall that brings the count of a
RETIRING window to 0 does this in its own happening (log 7). -/
def execWindowRetired (w : WindowId) (s : State) : Host.Outcome State Fault Refusal :=
  happening s fun s => s.finishRetirement w

/-- SET_DEFAULT (R15). -/
def execSetDefault (s : State) : Host.Outcome State Fault Refusal :=
  happening s fun s => s.takeDelivered .setDefault fun s m a => tableTaken (setDefaultEffect s m a)

/-- QUERY_WINDOW (R14). -/
def execQueryWindow (s : State) : Host.Outcome State Fault Refusal :=
  happening s fun s => s.takeDelivered .queryWindow fun s m a => tableTaken (queryWindowEffect s m a)

end Sys2Proof.Machine
end

