-- ==== Sys2Proof/Machine/Ports.lean ====
section
/-! DEFINITION. Machine/Ports.lean: the master ports: REQUEST_FRAME, PORT_RESET, LINK_DROP, MASTER_LINK_TRAINS and the parts of
a port cleanup at every block (chapter 10, R20, R59, R98, R126, R135, R145). -/

namespace Sys2Proof.Machine

/-! ### Request frames (R150 to R153) -/

/-- The link delivers a request frame: the port is UP, its cleanup state is CLEAR and its inbound queue has a free place
(R150). -/
def MasterPort.takesRequests (p : MasterPort) : Bool :=
  decide (p.link = .up) && decide (p.cleanup = .clear) && decide (p.inbound.length < Config.inboundPlaces)

/-- A request as the port takes it: UNBOUND, its decision due (R151). -/
def requestOf (f : RequestFrame) : Request := ⟨f.tag, f.kind, f.address, f.length, f.data, .unbound false⟩

/-- The port marks a tag OUTSTANDING (R154). -/
def State.markTag (s : State) (m : MasterId) (tag : Tag) : State :=
  s.setPort m { s.port m with tags := (s.port m).tags.put tag .outstanding }

/-- A request joins the tail of the inbound queue (R151). -/
def State.enqueue (s : State) (m : MasterId) (r : Request) : State :=
  s.setPort m { s.port m with inbound := (s.port m).inbound ++ [r] }

/-- The port takes a request frame: a tag clash, a malformed request, or a request for the queue (R151, R152, R153). -/
def State.takeRequest (s : State) (m : MasterId) (f : RequestFrame) : State :=
  if (s.port m).tags.get f.tag = .outstanding then s.post m (.protocolFault .tagClash f.tag)
  else if !f.wellFormed then (s.markTag m f.tag).complete m (refusal f.tag .malformed)
  else (s.markTag m f.tag).enqueue m (requestOf f)

/-- REQUEST_FRAME (R151). A frame that flow control holds stays at the master and is not taken (R150). -/
def execRequestFrame (m : MasterId) (f : RequestFrame) (s : State) : Host.Outcome State Fault Refusal :=
  happening s fun s => if (s.port m).takesRequests then s.takeRequest m f else s

/-! ### The start of a cleanup (R157) -/

/-- Every block that takes a part in a cleanup (R157). -/
def allBlocks : List CleanupBlock :=
  [.engine, .notices, .leases, .windows, .target 0, .target 1, .target 2, .target 3]

/-- The window named by a request's binding, if it is bound to one. -/
def Request.boundWindow (r : Request) : Option WindowId :=
  match r.binding with
  | .bound b => b.window
  | .unbound _ => none

/-- The master port after steps 1 and 2 of its own part: a new generation and an empty queue (R157). -/
def MasterPort.emptied (p : MasterPort) : MasterPort := { p with generation := p.generation + 1, inbound := [] }

/-- The master port after steps 3 and 4 of its own part: every tag FREE, and all the blocks still to take theirs (R157). -/
def MasterPort.handedOver (p : MasterPort) : MasterPort :=
  { p with tags := Table.fill 16 .free, cleanup := .underWay allBlocks }

/-- The master port's own part of a cleanup, its four steps in order; the window of a BOUND head has its count lowered
(R157, R41). -/
def State.takeOwnPart (s : State) (m : MasterId) : State :=
  let lowered := ((s.port m).inbound.filterMap Request.boundWindow).foldl State.countFalls (s.setPort m (s.port m).emptied)
  lowered.setPort m (lowered.port m).handedOver

/-- A cleanup starts, and the fresh decisions that the fall calls for come last (R17, R157). -/
def State.startCleanup (s : State) (m : MasterId) : State := (s.takeOwnPart m).redecideAfterFalls s

/-- PORT_RESET (R150, R157, R159): a port reset frame, taken while the port is UP and discarded while its cleanup is under
way. -/
def execPortReset (m : MasterId) (s : State) : Host.Outcome State Fault Refusal :=
  happening s fun s =>
    if (s.port m).link = .up ∧ (s.port m).cleanup = .clear then s.startCleanup m else s

/-- The link of a master port is no longer trained, and the port is DOWN (R149). -/
def State.lowerPort (s : State) (m : MasterId) : State :=
  s.setPort m { s.port m with link := .down, trained := false }

/-- LINK_DROP (R149, R157, R159): the loss of a link. An UP port becomes DOWN, and a cleanup starts unless one is under way. -/
def execLinkDrop (m : MasterId) (s : State) : Host.Outcome State Fault Refusal :=
  happening s fun s =>
    if (s.port m).link = .up ∧ (s.port m).cleanup = .clear then (s.lowerPort m).startCleanup m else s.lowerPort m

/-- The port comes UP if its link is trained and no cleanup is under way (R149, R158). -/
def MasterPort.comeUp (p : MasterPort) : MasterPort :=
  if p.trained ∧ p.cleanup = .clear then { p with link := .up } else p

/-- MASTER_LINK_TRAINS (R149): the link trains, and the port becomes UP if its cleanup state is CLEAR. -/
def execMasterLinkTrains (m : MasterId) (s : State) : Host.Outcome State Fault Refusal :=
  happening s fun s => s.setPort m (MasterPort.comeUp { s.port m with trained := true })

/-! ### The blocks' parts (R158) -/

/-- The cleanup state when a block has taken its part: CLEAR after the last one (R158). -/
def CleanupState.without (c : CleanupState) (b : CleanupBlock) : CleanupState :=
  match c with
  | .clear => .clear
  | .underWay left => if (left.erase b).isEmpty then .clear else .underWay (left.erase b)

/-- The block still has its part to take: it is in the set, and no command of the master delivered to it is still to be taken
there (R135, R158). -/
def State.partDue (s : State) (m : MasterId) (b : CleanupBlock) : Bool :=
  (match (s.port m).cleanup with
    | .clear => false
    | .underWay left => left.contains b) &&
  match s.engine.underWay with
  | some u => !(decide (u.master = m) && (u.command.owners u.args).contains b)
  | none => true

/-- A block leaves the set; with the last one the cleanup state becomes CLEAR and the port comes UP if its link is trained
(R158). -/
def State.partTaken (s : State) (m : MasterId) (b : CleanupBlock) : State :=
  s.setPort m (MasterPort.comeUp { s.port m with cleanup := (s.port m).cleanup.without b })

/-- A block's part of a cleanup, when it is due. -/
def State.takePart (s : State) (m : MasterId) (b : CleanupBlock) (part : State → State) : State :=
  if s.partDue m b then (part s).partTaken m b else s

/-- The command under way when its master's slot is cleaned up: its result is to be discarded (R135). -/
def UnderWay.cleanedFor (u : UnderWay) (m : MasterId) : UnderWay :=
  if u.master = m then { u with discard := true } else u

/-- The setup right after the cleanup of a master: a right it holds becomes OPEN (R126). -/
def SetupRight.cleanedFor (r : SetupRight) (m : MasterId) : SetupRight := if r = .held m then .open else r

/-- The command engine's part: the slot, the command under way and the setup right (R126, R135). -/
def State.cleanEngine (s : State) (m : MasterId) : State :=
  s.setEngine
    { setup := s.engine.setup.cleanedFor m
      slots := s.engine.slots.put m Slot.idleSlot
      lastServed := s.engine.lastServed
      underWay := s.engine.underWay.map fun u => u.cleanedFor m }

/-- The notice unit's part (R145). -/
def State.cleanNotices (s : State) (m : MasterId) : State := s.setUnit m NoticeUnit.resetUnit

/-- The lease of a window ends if the master holds it, with handoff and without a notice to the master (R59, step 2). -/
def State.dropLease (s : State) (m : MasterId) (w : WindowId) : State :=
  if s.holder w = some m then s.endLease w else s

/-- The lease manager's part: the master's claims, its leases in rising window index, and its reported marks (R59, R74). -/
def State.cleanLeases (s : State) (m : MasterId) : State :=
  let unclaimed := s.setClaims (s.claims.filter fun c => decide (c.claimant ≠ m))
  let ended := allWindows.foldl (fun s w => s.dropLease m w) unclaimed
  { ended with leases := ended.leases.each fun l => l.map fun l => { l with reported := l.reported.erase m } }

/-- The record of a window after the cleanup of a master: no longer its retiring master (R20). -/
def WindowRecord.cleanedFor (r : WindowRecord) (m : MasterId) : WindowRecord :=
  if r.state = .retiring ∧ r.retiringMaster = some m then { r with retiringMaster := none } else r

/-- The window table's part (R20). -/
def State.cleanWindows (s : State) (m : MasterId) : State :=
  { s with windows := s.windows.each fun r => r.cleanedFor m }

/-- A target port's part: the master leaves its waiting set and its fence requester set (R98, R120). -/
def State.cleanTarget (s : State) (m : MasterId) (t : TargetId) : State :=
  s.setTarget t { s.target t with
    waiting := (s.target t).waiting.erase m
    requesters := (s.target t).requesters.erase m }

/-- CLEANUP_ENGINE_PART (R126, R135). -/
def execCleanupEnginePart (m : MasterId) (s : State) : Host.Outcome State Fault Refusal :=
  happening s fun s => s.takePart m .engine fun s => s.cleanEngine m

/-- CLEANUP_NOTICE_PART (R145). -/
def execCleanupNoticePart (m : MasterId) (s : State) : Host.Outcome State Fault Refusal :=
  happening s fun s => s.takePart m .notices fun s => s.cleanNotices m

/-- CLEANUP_LEASE_PART (R59). -/
def execCleanupLeasePart (m : MasterId) (s : State) : Host.Outcome State Fault Refusal :=
  happening s fun s => s.takePart m .leases fun s => s.cleanLeases m

/-- CLEANUP_WINDOW_PART (R20). -/
def execCleanupWindowPart (m : MasterId) (s : State) : Host.Outcome State Fault Refusal :=
  happening s fun s => s.takePart m .windows fun s => s.cleanWindows m

/-- CLEANUP_TARGET_PART (R98, R120). -/
def execCleanupTargetPart (m : MasterId) (t : TargetId) (s : State) : Host.Outcome State Fault Refusal :=
  happening s fun s => s.takePart m (.target t) fun s => s.cleanTarget m t

end Sys2Proof.Machine
end

