-- ==== Sys2Proof/Machine/TimeBase.lean ====
section
/-! DEFINITION. Machine/TimeBase.lean: the time base and device reset: TICK, SET_TICK, RST_N_RELEASE, DEVICE_RESET, and the
REFCLK period that the part idles through (3.1, R161, 11.6). -/

namespace Sys2Proof.Machine

/-- The tick period in REFCLK periods (R42). -/
def TimeBase.period (b : TimeBase) : Nat := b.divider * 2 ^ b.scale

/-! ### The ticks on their way (R43) -/

/-- The blocks that a tick reaches: the lease manager and the four target ports (R43). -/
def allTickBlocks : List TickBlock := .leases :: allTargets.map .target

/-- How many ticks are on their way to a block. -/
def TicksDue.at (d : TicksDue) (b : TickBlock) : Nat :=
  match b with
  | .leases => d.leases
  | .target t => d.targets.get t

/-- One more tick is on its way to every block (R43). -/
def TicksDue.emitted (d : TicksDue) : TicksDue := ⟨d.leases + 1, d.targets.each (· + 1)⟩

/-- One tick has arrived at a block. -/
def TicksDue.arrived (d : TicksDue) (b : TickBlock) : TicksDue :=
  match b with
  | .leases => { d with leases := d.leases - 1 }
  | .target t => { d with targets := d.targets.put t (d.targets.get t - 1) }

/-- The time base emits a tick: the prescale count returns to 0, and the tick is on its way to the lease manager and to every
target port (R42, R43). -/
def State.emitTick (s : State) : State := s.setTime { s.time with prescale := 0, due := s.time.due.emitted }

/-! ### The arrival of a tick at a block (R43, R89) -/

/-- The lease owes a countdown for the tick that has arrived. -/
def Lease.owing (l : Lease) : Lease := { l with owed := true }

/-- The waiting claim owes a countdown for the tick that has arrived. -/
def WaitingClaim.owing (c : WaitingClaim) : WaitingClaim := { c with owed := true }

/-- The outstanding record owes a count for the tick that has arrived. -/
def OutRecord.owing (r : OutRecord) : OutRecord := { r with owed := true }

/-- Every outstanding record of the port owes one count (R89). -/
def TargetPort.owing (p : TargetPort) : TargetPort := { p with records := p.records.each fun r => r.map OutRecord.owing }

/-- Every lease record and waiting claim that exists owes one countdown (R43). -/
def State.oweAtLeases (s : State) : State :=
  { s with leases := s.leases.each fun l => l.map Lease.owing, claims := s.claims.map WaitingClaim.owing }

/-- Every record that exists at the block owes one countdown or count for the tick that arrives there (R43, R89). -/
def State.oweAt (s : State) (b : TickBlock) : State :=
  match b with
  | .leases => s.oweAtLeases
  | .target t => s.setTarget t (s.target t).owing

/-- The countdowns that the lease manager still owes for the last tick are taken: leases in rising window index, then claims in
the order they joined (R43; the order, log 5). -/
def State.takeOwedLeases (s : State) : State :=
  let leases := allWindows.foldl (fun s w => s.countLease w) s
  leases.claims.foldl (fun s c => s.countClaim c.window c.claimant) leases

/-- The counts that a target port still owes for the last tick are taken, in rising xid (R89; the order, log 5). -/
def State.takeOwedTarget (s : State) (t : TargetId) : State := allXids.foldl (fun s x => s.countAge t x) s

/-- What a block still owes for the last tick is taken. -/
def State.takeOwedAt (s : State) (b : TickBlock) : State :=
  match b with
  | .leases => s.takeOwedLeases
  | .target t => s.takeOwedTarget t

/-- A tick arrives at a block, if one is on its way there: every countdown of the one before it is taken before it arrives, and
then each record that exists at the block owes one (R43, R89). -/
def State.tickArrives (s : State) (b : TickBlock) : State :=
  if s.time.due.at b = 0 then s
  else
    let taken := s.takeOwedAt b
    (taken.setTime { taken.time with due := taken.time.due.arrived b }).oweAt b

/-! ### TICK and the idle step -/

/-- One happening of a tick (R42, R43, R50, R68, R89). -/
def State.tickPart (s : State) (part : TickPart) : State :=
  match part with
  | .emit => s.emitTick
  | .arrive b => s.tickArrives b
  | .lease w => s.countLease w
  | .claim w m => s.countClaim w m
  | .age t x => s.countAge t x

/-- TICK (R43), one of its happenings. Its emission stands for the REFCLK periods that the tick period still lacks (log 4). The
arrivals, and the countdowns and counts that each arrival owes, may be commanded in any order and among other commands. -/
def execTick (part : TickPart) (s : State) : Host.Outcome State Fault Refusal := happening s fun s => s.tickPart part

/-- The first countdown or count owed: leases in rising window index, claims in the order they joined, records in rising target
and xid (the order, log 1). -/
def State.owedPart (s : State) : Option TickPart :=
  ((allWindows.find? fun w => (s.lease w).any Lease.owed).map .lease) <|>
  ((s.claims.find? WaitingClaim.owed).map fun c => .claim c.window c.claimant) <|>
  allTargets.findSome? fun t => (allXids.find? fun x => ((s.target t).record x).any OutRecord.owed).map (.age t)

/-- The next happening that ticks already emitted leave to be taken: a countdown or count owed, or else an arrival (the order,
log 1). -/
def State.nextPart (s : State) : Option TickPart :=
  s.owedPart <|> (allTickBlocks.find? fun b => s.time.due.at b != 0).map .arrive

/-- One REFCLK period: the prescale count rises by one, or, where that would bring it to the tick period, a tick is emitted
(R42). -/
def State.refclk (s : State) : State :=
  if s.time.prescale + 1 < s.time.period then s.setTime { s.time with prescale := s.time.prescale + 1 } else s.emitTick

/-- What the part does in a step that takes no command: the next happening that ticks already emitted leave to be taken, or else
a REFCLK period passes; and nothing while RST_N is asserted (DESIGN CHOICE, log 1). -/
def idle (s : State) : Host.Outcome State Fault Refusal :=
  happening s fun s =>
    match s.nextPart with
    | some part => s.tickPart part
    | none => s.refclk

/-! ### The settings (R44) -/

/-- SET_TICK(scale, divider) at the time base (R44). -/
def setTickEffect (s : State) (_ : MasterId) (a : Args) : State × Reply :=
  if Config.maxScale < argNat a 0 ∨ argNat a 1 = 0 ∨ Config.maxDivider < argNat a 1 then (s, ⟨.badField, []⟩)
  else (s.setTime { s.time with scale := argNat a 0, divider := argNat a 1, prescale := 0 }, ⟨.ok, []⟩)

/-- SET_TICK (R44). -/
def execSetTick (s : State) : Host.Outcome State Fault Refusal :=
  happening s fun s => s.takeDelivered .setTick setTickEffect

/-! ### Device reset (R21, R42, R60, R75, R78, R136, R146, R161) -/

/-- DEVICE_RESET (R161): the assertion of RST_N sets every block to its reset values and returns no completion. -/
def execDeviceReset (s : State) : Host.Outcome State Fault Refusal :=
  .next { State.reset with rstN := .asserted, pending := s.pending }

/-- RST_N_RELEASE (R42): the time base starts to count toward its first tick from a prescale count of 0. -/
def execRstNRelease (s : State) : Host.Outcome State Fault Refusal :=
  .next
    (if s.rstN = .asserted then { s with rstN := .released, time := { s.time with prescale := 0 } } else s)

end Sys2Proof.Machine
end

