-- ==== Sys2Proof/Machine/Dispatch.lean ====
section
/-! DEFINITION. Machine/Dispatch.lean: the effect of a command on everything but the queue: one arm for each row of the table. -/

namespace Sys2Proof.Machine

def exec (i : Instr) (s : State) : Host.Outcome State Fault Refusal :=
  match i with
  | .deviceReset => Sys2Proof.Machine.execDeviceReset s
  | .rstNRelease => Sys2Proof.Machine.execRstNRelease s
  | .tick part => Sys2Proof.Machine.execTick part s
  | .expired w => Sys2Proof.Machine.execExpired w s
  | .handoff w => Sys2Proof.Machine.execHandoff w s
  | .claimLapsed w m => Sys2Proof.Machine.execClaimLapsed w m s
  | .timeout t x => Sys2Proof.Machine.execTimeout t x s
  | .requestFrame m f => Sys2Proof.Machine.execRequestFrame m f s
  | .portReset m => Sys2Proof.Machine.execPortReset m s
  | .linkDrop m => Sys2Proof.Machine.execLinkDrop m s
  | .masterLinkTrains m => Sys2Proof.Machine.execMasterLinkTrains m s
  | .cleanupEnginePart m => Sys2Proof.Machine.execCleanupEnginePart m s
  | .cleanupNoticePart m => Sys2Proof.Machine.execCleanupNoticePart m s
  | .cleanupLeasePart m => Sys2Proof.Machine.execCleanupLeasePart m s
  | .cleanupWindowPart m => Sys2Proof.Machine.execCleanupWindowPart m s
  | .cleanupTargetPart m t => Sys2Proof.Machine.execCleanupTargetPart m t s
  | .steeringDecision m => Sys2Proof.Machine.execSteeringDecision m s
  | .eventPortRead m => Sys2Proof.Machine.execEventPortRead m s
  | .noticeMaskWrite m => Sys2Proof.Machine.execNoticeMaskWrite m s
  | .controlPageWrite m => Sys2Proof.Machine.execControlPageWrite m s
  | .commandTake => Sys2Proof.Machine.execCommandTake s
  | .defineWindow => Sys2Proof.Machine.execDefineWindow s
  | .setRoute => Sys2Proof.Machine.execSetRoute s
  | .setAccess => Sys2Proof.Machine.execSetAccess s
  | .enableWindow => Sys2Proof.Machine.execEnableWindow s
  | .disableWindow => Sys2Proof.Machine.execDisableWindow s
  | .retireWindow => Sys2Proof.Machine.execRetireWindow s
  | .windowRetired w => Sys2Proof.Machine.execWindowRetired w s
  | .setDefault => Sys2Proof.Machine.execSetDefault s
  | .queryWindow => Sys2Proof.Machine.execQueryWindow s
  | .claim => Sys2Proof.Machine.execClaim s
  | .renew => Sys2Proof.Machine.execRenew s
  | .release => Sys2Proof.Machine.execRelease s
  | .withdraw => Sys2Proof.Machine.execWithdraw s
  | .revoke => Sys2Proof.Machine.execRevoke s
  | .setTick => Sys2Proof.Machine.execSetTick s
  | .setTarget => Sys2Proof.Machine.execSetTarget s
  | .queryTarget => Sys2Proof.Machine.execQueryTarget s
  | .fenceTarget => Sys2Proof.Machine.execFenceTarget s
  | .unfenceTarget => Sys2Proof.Machine.execUnfenceTarget s
  | .fenceDone t => Sys2Proof.Machine.execFenceDone t s
  | .xidGrant t => Sys2Proof.Machine.execXidGrant t s
  | .mirrorXidGrant t => Sys2Proof.Machine.execMirrorXidGrant t s
  | .targetCompletion t f => Sys2Proof.Machine.execTargetCompletion t f s
  | .targetLinkDown t => Sys2Proof.Machine.execTargetLinkDown t s
  | .targetLinkTrains t => Sys2Proof.Machine.execTargetLinkTrains t s

end Sys2Proof.Machine
end

