-- ==== Sys2Proof/Safety.lean ====
section
/-! DEFINITION. Safety.lean: what a good state of the part is: the properties that the spec says hold at all times (R1, R3, R16,
R42, R45, R63, R64, R78 to R82, R110, R112, R129, R132, R139, R141, R144, R148, R154 to R156), each over State as it stands,
and the words that the statements use: which command a row delivers, and a delivered command answered. -/

namespace Sys2Proof.Machine

/-! ### Windows and the time base -/

/-- A window record keeps R1 to R3 and R19: a FREE record holds the FREE values, every other record has a legal geometry, and only
a RETIRING window, which still counts a transaction, has a retiring master. -/
abbrev WindowRecord.ok (r : WindowRecord) : Prop :=
  (r.state = .free → r = WindowRecord.freeRecord) ∧
  (r.state ≠ .free → geometryOk r.base r.sizeLog2 = true) ∧
  (r.state ≠ .free → r.readRoute.geometryOk r.sizeLog2 = true ∧ r.writeRoute.geometryOk r.sizeLog2 = true) ∧
  r.tier ≤ 3 ∧ r.ceiling ≤ Config.maxRenewals ∧ r.inFlight ≤ Config.maxInFlight ∧
  (r.retiringMaster ≠ none → r.state = .retiring) ∧ (r.state = .retiring → 0 < r.inFlight)

/-- The time base keeps R42: its settings are in range and its prescale count is below the tick period. -/
abbrev TimeBase.ok (b : TimeBase) : Prop :=
  b.scale ≤ Config.maxScale ∧ 1 ≤ b.divider ∧ b.divider ≤ Config.maxDivider ∧ b.prescale < b.period

/-- Every window record and the time base keep their ranges (R1, R2, R3, R19, R42). -/
abbrev State.windowsOk (s : State) : Prop := (∀ w, (s.window w).ok) ∧ s.time.ok

/-! ### Leases and waiting claims -/

/-- A lease record keeps the ranges of R45, and its holder is not in its own reported set (R61). -/
abbrev Lease.ok (l : Lease) : Prop :=
  1 ≤ l.remaining ∧ l.remaining ≤ l.duration ∧ l.duration ≤ Config.maxDuration ∧ l.warnAt < l.duration ∧
  l.renewals ≤ Config.maxRenewals ∧ l.reported.get l.holder = false

/-- A waiting claim keeps the ranges of R63. -/
abbrev WaitingClaim.ok (c : WaitingClaim) : Prop :=
  1 ≤ c.duration ∧ c.duration ≤ Config.maxDuration ∧ c.warnAt < c.duration ∧
  (∀ n ∈ c.waitRemaining, 1 ≤ n ∧ n < Config.noWaitLimit)

/-- Two claims are not of one master for one window (R64). -/
abbrev WaitingClaim.apart (c d : WaitingClaim) : Prop := c.window ≠ d.window ∨ c.claimant ≠ d.claimant

/-- A window with a lease is DEFINED or ACTIVE and has a policy other than NONE (R45, R48). -/
abbrev State.leaseStands (s : State) (w : WindowId) (l : Lease) : Prop :=
  l.ok ∧ (s.window w).state.takesClaims = true ∧ (s.window w).policy ≠ .none

/-- The lease manager keeps R45, R63 and R64: at most 24 claims, each in range, no two alike, each for a window that another
master holds, and every lease in range on a window that may be leased. -/
abbrev State.leasesOk (s : State) : Prop :=
  s.claims.length ≤ Config.poolSlots ∧ s.claims.Pairwise WaitingClaim.apart ∧
  (∀ c ∈ s.claims, c.ok ∧ (s.holder c.window).any (fun h => decide (h ≠ c.claimant)) = true) ∧
  (∀ w, ∀ l ∈ s.lease w, s.leaseStands w l)

/-! ### Target ports -/

/-- Every xid is either free, once in the free list, or in use by one record (R81). -/
abbrev TargetPort.xidsOk (p : TargetPort) : Prop :=
  p.freeList.Nodup ∧ ∀ x : Xid, x ∈ p.freeList ↔ p.record x = none

/-- A write route names two different targets if it is a mirror (R3). -/
def WriteRoute.legsDiffer (r : WriteRoute) : Bool :=
  match r with
  | .mirror t1 _ t2 _ => decide (t1 ≠ t2)
  | .deny | .discard | .target _ _ => true

/-- A bound route names two different targets if it is a mirror (R3, R36). -/
def BoundRoute.legsDiffer (r : BoundRoute) : Bool :=
  match r with
  | .mirror t1 _ t2 _ _ => decide (t1 ≠ t2)
  | .single _ _ => true

/-- A bound request's route names two different targets if it is a mirror. -/
def Request.legsDiffer (r : Request) : Bool :=
  match r.binding with
  | .bound b => b.route.legsDiffer
  | .unbound _ => true

/-- The xids of every target port are accounted for (R81), and no mirror names one target twice (R3). -/
abbrev State.xidsOk (s : State) : Prop :=
  (∀ t, (s.target t).xidsOk) ∧ (∀ w, (s.window w).writeRoute.legsDiffer = true) ∧
  (∀ m, ∀ r ∈ (s.port m).inbound, r.legsDiffer = true)

/-- The settings and counts of a target port are in their ranges (R78, R82). -/
abbrev TargetPort.rangesOk (p : TargetPort) : Prop :=
  p.timeout ≤ Config.maxTimeout ∧ p.threshold ≤ Config.maxThreshold ∧ p.consecutive ≤ Config.maxCount ∧
  p.strays ≤ Config.maxCount ∧ (∀ x, ∀ r ∈ p.record x, r.age ≤ Config.maxCount)

/-- The state of a target port and what goes with it: only an ONLINE target is waited for (R112), only a FENCING one has
requesters (R110) and it still drains, a FENCED one has drained (R113), and the link states fit (R80, R94, R115). -/
abbrev TargetPort.stateOk (p : TargetPort) : Prop :=
  (p.state ≠ .online → ∀ m, p.waiting.get m = false) ∧
  (p.state ≠ .fencing → ∀ m, p.requesters.get m = false) ∧
  (p.state = .fencing → 0 < p.outstanding) ∧ (p.state = .fenced → p.outstanding = 0) ∧
  (p.link = .down → p.outstanding = 0 ∧ (p.state = .fenced ∨ p.state = .faulted)) ∧
  (p.link = .training → p.outstanding = 0 ∧ (p.state = .online ∨ p.state = .fenced))

/-- Every target port is in a legal state with its counts in range (R78, R80, R110, R112, R113). -/
abbrev State.targetsOk (s : State) : Prop := ∀ t, (s.target t).stateOk ∧ (s.target t).rangesOk

/-! ### The in-flight counts (R16) -/

/-- The requests still in an inbound queue that are bound to a window. -/
def State.boundTo (s : State) (w : WindowId) : Nat :=
  (allMasters.map fun m => ((s.port m).inbound.filter fun r => decide (r.boundWindow = some w)).length).sum

/-- The record is a single-target transaction's, bound to this window. -/
def OutRecord.holdsCount (r : OutRecord) (w : WindowId) : Bool := decide (r.window = some w) && r.leg.isNone

/-- The single-target transactions outstanding that are bound to a window, orphans among them. -/
def State.outstandingOf (s : State) (w : WindowId) : Nat :=
  (allTargets.map fun t => (allXids.filter fun x => ((s.target t).record x).any fun r => r.holdsCount w).length).sum

/-- The forwarded mirror writes of a window, orphans among them. -/
def State.mirrorsOf (s : State) (w : WindowId) : Nat :=
  (allTargets.map fun t => ((s.target t).mirrors.filter fun r => decide (r.window = w)).length).sum

/-- Every in-flight count equals the number of transactions bound to its window that have not ended, and it is 0 in FREE
(R16). -/
abbrev State.countsOk (s : State) : Prop :=
  s.xidsOk ∧ ∀ w,
    (s.window w).inFlight = s.boundTo w + s.outstandingOf w + s.mirrorsOf w ∧
    ((s.window w).state = .free → (s.window w).inFlight = 0)

/-! ### Tags and generations (R154 to R156) -/

/-- The requests in a master's inbound queue that carry a tag. -/
def State.queuedWith (s : State) (m : MasterId) (tag : Tag) : Nat :=
  ((s.port m).inbound.filter fun r => decide (r.tag = tag)).length

/-- The record is a single-target transaction's of this master, tag and generation. -/
def OutRecord.holdsTag (r : OutRecord) (m : MasterId) (tag : Tag) (generation : Nat) : Bool :=
  decide (r.master = m) && decide (r.tag = tag) && decide (r.generation = generation) && r.leg.isNone

/-- The single-target transactions outstanding, not orphans, that carry a master's tag. -/
def State.outstandingWith (s : State) (m : MasterId) (tag : Tag) : Nat :=
  (allTargets.map fun t =>
    (allXids.filter fun x => ((s.target t).record x).any fun r => r.holdsTag m tag (s.port m).generation).length).sum

/-- The mirror record is a write's of this master, tag and generation. -/
def MirrorRecord.holdsTag (r : MirrorRecord) (m : MasterId) (tag : Tag) (generation : Nat) : Bool :=
  decide (r.master = m) && decide (r.tag = tag) && decide (r.generation = generation)

/-- The forwarded mirror writes, not orphans, that carry a master's tag. -/
def State.mirrorsWith (s : State) (m : MasterId) (tag : Tag) : Nat :=
  (allTargets.map fun t =>
    ((s.target t).mirrors.filter fun r => r.holdsTag m tag (s.port m).generation).length).sum

/-- A tag entry counts the requests it may belong to: one while OUTSTANDING, none while FREE (R154). -/
def TagState.holders (t : TagState) : Nat :=
  match t with
  | .free => 0
  | .outstanding => 1

/-- A binding in a master's queue carries the port's generation, and a mirror's names a window (R36, R99, R155). -/
def Binding.current (b : Binding) (generation : Nat) : Bool :=
  decide (b.generation = generation) &&
    match b.route with
    | .single _ _ => true
    | .mirror _ _ _ _ _ => b.window.isSome

/-- A request in a master's queue is of the port's generation. -/
def Request.current (r : Request) (generation : Nat) : Bool :=
  match r.binding with
  | .bound b => b.current generation
  | .unbound _ => true

/-- Every OUTSTANDING tag belongs to exactly one request that its port has taken and not completed, every FREE tag to none, and
no record carries a generation later than its port's (R148, R154, R156). -/
abbrev State.tagsOk (s : State) : Prop :=
  s.xidsOk ∧
  (∀ m tag, s.queuedWith m tag + s.outstandingWith m tag + s.mirrorsWith m tag = ((s.port m).tags.get tag).holders) ∧
  (∀ m, ∀ r ∈ (s.port m).inbound, r.current (s.port m).generation = true) ∧
  (∀ t x, ∀ r ∈ (s.target t).record x, r.generation ≤ (s.port r.master).generation) ∧
  (∀ t, ∀ r ∈ (s.target t).mirrors, r.generation ≤ (s.port r.master).generation)

/-! ### Master ports (R148 to R150, R157, R158) -/

/-- The blocks still to take their part of a cleanup. -/
def CleanupState.left (c : CleanupState) : List CleanupBlock :=
  match c with
  | .clear => []
  | .underWay left => left

/-- A master port keeps R148 to R150: at most 8 requests, none while it is DOWN or its cleanup is under way, only the head
decided, UP exactly when its link is trained unless a cleanup holds it DOWN, and a cleanup under way has parts left. -/
abbrev MasterPort.ok (p : MasterPort) : Prop :=
  p.inbound.length ≤ Config.inboundPlaces ∧ (p.link = .down → p.inbound = []) ∧ (p.cleanup ≠ .clear → p.inbound = []) ∧
  (∀ r ∈ p.inbound.tail, r.binding = .unbound false) ∧ (p.link = .up → p.trained = true) ∧
  (p.cleanup = .clear → p.trained = true → p.link = .up) ∧ p.cleanup.left.Nodup ∧
  (p.cleanup ≠ .clear → p.cleanup.left ≠ [])

/-- The head of a master's queue is bound and waits for an xid at a target (R83). -/
def State.headWaitsAt (s : State) (m : MasterId) (t : TargetId) : Bool :=
  match s.headBinding m with
  | some b => decide (t ∈ b.route.waitsAt)
  | none => false

/-- A master stands in a target's waiting set exactly when its head waits there, but that a cleanup under way takes it out at the
target's own part (R83, R98, R157). -/
abbrev State.waitingOk (s : State) (m : MasterId) (t : TargetId) : Prop :=
  (s.headWaitsAt m t = true → (s.target t).waiting.get m = true) ∧
  ((s.target t).waiting.get m = true → s.headWaitsAt m t = true ∨ CleanupBlock.target t ∈ (s.port m).cleanup.left)

/-- Every master port is in a legal state, and the waiting sets follow the heads (R83, R148 to R150, R157). -/
abbrev State.portsOk (s : State) : Prop := (∀ m, (s.port m).ok) ∧ ∀ m t, s.waitingOk m t

/-! ### The command engine (R129, R132, R133) -/

/-- The command under way is this master's and its result is still wanted. -/
def Engine.runsFor (e : Engine) (m : MasterId) : Bool :=
  e.underWay.any fun u => decide (u.master = m) && !u.discard

/-- The slots follow the engine: EXECUTING exactly for the master of the command under way, with a result exactly in DONE and
result words only there, and only a command of another block is under way (R129, R132, R133). -/
abbrev State.engineOk (s : State) : Prop :=
  (∀ m, (s.slot m).state = .executing ↔ s.engine.runsFor m = true) ∧
  (∀ m, (s.slot m).state = .done ↔ (s.slot m).result ≠ none) ∧
  (∀ m, (s.slot m).state ≠ .done → (s.slot m).words = Table.fill 8 0) ∧
  (∀ u ∈ s.engine.underWay, u.command.engineOwned = false)

/-! ### The notice unit (R139, R141, R144) -/

/-- Each notice's sequence is followed by the next one's, and the last one's by `next` (R139). -/
def numberedUpTo (l : List Notice) (next : BitVec 16) : Bool :=
  match l with
  | [] => true
  | [n] => decide (n.seq + 1 = next)
  | n :: k :: rest => decide (n.seq + 1 = k.seq) && numberedUpTo (k :: rest) next

/-- The sequence numbers in a queue run without a gap up to the next sequence number, an OVERFLOW standing for as many as its
count says while that is below 65535 (R139). -/
def NoticeUnit.numbered (u : NoticeUnit) : Bool :=
  match u.queue.overflow with
  | none => numberedUpTo u.queue.real u.nextSeq
  | some o =>
    numberedUpTo u.queue.real o.seq &&
      (decide (o.count = Config.maxOverflow) || decide (o.seq + BitVec.ofNat 16 o.count = u.nextSeq))

/-- One master's part of the notice unit keeps R139, R141, R143 and R144: at most 15 real notices and one OVERFLOW behind them,
numbered without a gap, and the interrupt line as the queue and the mask call for. -/
abbrev NoticeUnit.ok (u : NoticeUnit) : Prop :=
  u.queue.real.length ≤ Config.realNotices ∧ (∀ n ∈ u.queue.real, n.body.kind ≠ .overflow) ∧
  (∀ o ∈ u.queue.overflow, 1 ≤ o.count ∧ o.count ≤ Config.maxOverflow) ∧ u.numbered = true ∧
  u.line = lineOf u.queue u.mask ∧ u.mask.getLsbD 0 = false ∧ (∀ v ∈ u.view, v.left ≤ 15)

/-- Every master's part of the notice unit is legal (R139, R141, R144). -/
abbrev State.noticesOk (s : State) : Prop := ∀ m, (s.unit m).ok

/-! ### The setup right once closed (R125) -/

/-- The setup right is CLOSED and no setup class command is under way. -/
abbrev State.closedOk (s : State) : Prop :=
  s.engine.setup = .closed ∧ ∀ u ∈ s.engine.underWay, u.command.permission ≠ .setup

/-- The record is as it was but for its in-flight count and its retiring master, or is a drained RETIRING window that has become
FREE (R125). -/
abbrev WindowRecord.keptFrom (r' r : WindowRecord) : Prop :=
  r' = { r with inFlight := r'.inFlight, retiringMaster := r'.retiringMaster } ∨
  (r.state = .retiring ∧ r' = WindowRecord.freeRecord)

/-- What no command changes while the setup right is CLOSED: the windows' records but for their counts, the default routes, the
tick settings and every target's settings (R125). -/
abbrev State.mapKeptFrom (s' s : State) : Prop :=
  (∀ w, (s'.window w).keptFrom (s.window w)) ∧ s'.defaultRead = s.defaultRead ∧ s'.defaultWrite = s.defaultWrite ∧
  s'.time.scale = s.time.scale ∧ s'.time.divider = s.time.divider ∧
  (∀ t, (s'.target t).timeout = (s.target t).timeout ∧ (s'.target t).threshold = (s.target t).threshold)

/-! ### Countdowns owed (R43, R89) -/

/-- No lease or waiting claim still owes a countdown for the last tick that has arrived. -/
abbrev State.leasesSettled (s : State) : Prop :=
  (∀ w, ∀ l ∈ s.lease w, l.owed = false) ∧ ∀ c ∈ s.claims, c.owed = false

/-- No outstanding record of a target port still owes a count for the last tick that has arrived. -/
abbrev State.targetSettled (s : State) (t : TargetId) : Prop := ∀ x, ∀ r ∈ (s.target t).record x, r.owed = false

/-- No countdown or count is owed, and no tick is on its way to any block. -/
abbrev State.settled (s : State) : Prop :=
  s.leasesSettled ∧ (∀ t, s.targetSettled t) ∧ s.time.due.leases = 0 ∧ ∀ t, s.time.due.targets.get t = 0

/-! ### Delivered commands (R130, R134) -/

/-- The command that a row takes at its owning block, if the row is such a command's. -/
def deliveredBy (i : Instr) : Option Command :=
  match i with
  | .defineWindow => some .defineWindow
  | .setRoute => some .setRoute
  | .setAccess => some .setAccess
  | .enableWindow => some .enableWindow
  | .disableWindow => some .disableWindow
  | .retireWindow => some .retireWindow
  | .setDefault => some .setDefault
  | .queryWindow => some .queryWindow
  | .claim => some .claim
  | .renew => some .renew
  | .release => some .release
  | .withdraw => some .withdraw
  | .revoke => some .revoke
  | .setTick => some .setTick
  | .setTarget => some .setTarget
  | .queryTarget => some .queryTarget
  | .fenceTarget => some .fenceTarget
  | .unfenceTarget => some .unfenceTarget
  | .deviceReset | .rstNRelease | .tick _ | .expired _ | .handoff _ | .claimLapsed _ _ | .timeout _ _ | .requestFrame _ _
  | .portReset _ | .linkDrop _ | .masterLinkTrains _ | .cleanupEnginePart _ | .cleanupNoticePart _ | .cleanupLeasePart _
  | .cleanupWindowPart _ | .cleanupTargetPart _ _ | .steeringDecision _ | .eventPortRead _ | .noticeMaskWrite _
  | .controlPageWrite _ | .commandTake | .windowRetired _ | .fenceDone _ | .xidGrant _ | .mirrorXidGrant _
  | .targetCompletion _ _ | .targetLinkDown _ | .targetLinkTrains _ => none

/-- RST_N is released and master `m`'s command `c` has been delivered with these arguments, its result still wanted (R133). -/
abbrev State.delivered (s : State) (m : MasterId) (c : Command) (a : Args) : Prop :=
  s.rstN = .released ∧ s.engine.underWay = some ⟨m, c, a, false⟩

/-- The command under way ends, and the slot of master `m` shows DONE with this result (R134). -/
def State.answered (s : State) (m : MasterId) (r : Result) (words : List Nat) : State :=
  { s with engine := { s.engine with
      underWay := none
      slots := s.engine.slots.put m
        { s.engine.slots.get m with state := .done, result := some r, words := resultWords words } } }

/-- The engine has taken the slot of master `m` and carried its command out or refused it: the slot shows DONE with this result,
the setup right is `setup`, and `m` is last served (R132, R133). -/
def State.served (s : State) (m : MasterId) (setup : SetupRight) (r : Result) (words : List Nat) : State :=
  { s with engine := { s.engine with
      setup := setup
      lastServed := m
      slots := s.engine.slots.put m
        { s.engine.slots.get m with state := .done, result := some r, words := resultWords words } } }

/-- RST_N is released, the engine is free, and the slot it takes next is master `m`'s, which holds this command code (R132). -/
abbrev State.takes (s : State) (m : MasterId) (code : BitVec 8) : Prop :=
  s.rstN = .released ∧ s.nextTake = some m ∧ (s.slot m).code = code

/-! ### Requests at the head (R22, R155) -/

/-- The head of master `m`'s queue leaves with this completion: the frame leaves on the link and its tag is FREE (R22, R155). -/
def State.returned (s : State) (m : MasterId) (f : CompletionFrame) : State :=
  { s with
    toMaster := s.toMaster.put m (s.toMaster.get m ++ [f])
    ports := s.ports.put m
      { s.ports.get m with
        inbound := (s.ports.get m).inbound.tail
        tags := (s.ports.get m).tags.put f.tag .free } }

/-- RST_N is released, and `r` is the head of master `m`'s queue, its decision due (R22). -/
abbrev State.decides (s : State) (m : MasterId) (r : Request) : Prop := s.rstN = .released ∧ s.dueHead m = some r

/-- The request lies outside the control page and matches window `w`, and its master passes the window's access set and lease
check (R25, R27, R28). -/
abbrev State.reaches (s : State) (m : MasterId) (r : Request) (w : WindowId) : Prop :=
  s.decides m r ∧ inControlPage r.address = false ∧ s.matchWindow r.address = some w ∧
  ((s.window w).setFor r.kind).get m = true ∧ s.leaseCheck m w r.kind = none

/-! ### Results -/

/-- A result that says the command took effect, or found nothing to do or only reported (8.5). -/
def Result.accepts (r : Result) : Bool :=
  match r with
  | .ok | .accepted | .granted | .queued => true
  | .already | .badCommand | .badField | .badIndex | .badState | .badGeometry | .slotInUse | .leased | .notSetup
  | .setupHeld | .setupClosed | .portDown | .held | .duplicate | .busyWindow | .queueFull | .notLeasable | .notHolder
  | .notHeld | .notWaiting | .ceiling | .linkDown => false

end Sys2Proof.Machine
end

