-- ==== Sys2Proof/Certificates/Slice0/Obligations.lean ====
section
/-! DEFINITION. Certificates/Slice0/Obligations.lean: the statements for the provers, in the order of OBLIGATIONS.json. -/

open Sys2Proof Sys2Proof.Machine

/-! ### The step, reset and the time base -/

/-- A step on a queue that is not empty is `exec` of its front command on the state with the queue's rest. -/
def Obligations.StepRunsTheFrontCommand : Prop :=
  ∀ (c : Instr) (rest : List Instr) (s : State), s.pending = c :: rest → step s = exec c { s with pending := rest }

/-- What steps on an empty queue do (the model's choice, log 1). Where nothing is owed and no tick is on its way they are REFCLK
periods: while the tick period is not full each raises the prescale count by one and changes nothing else, and as many as the
period still lacks end in the tick's emission (R42, R43). That the emission is that of the row TICK, which stands for the periods
still lacking at any prescale count, is the model's choice too (log 4). Otherwise a step takes one happening of the row TICK: a
countdown or count that is owed, or, where none is owed at any block, the arrival of a tick at a block that one is on its way
to. -/
def Obligations.IdleRunEmitsTheTick : Prop :=
  ∀ s : State, s.rstN = .released → s.pending = [] →
    (s.settled → s.time.prescale < s.time.period →
      (∀ k, s.time.prescale + k < s.time.period →
        Host.Core.run Sys2Proof.core k s = .next { s with time := { s.time with prescale := s.time.prescale + k } }) ∧
      Host.Core.run Sys2Proof.core (s.time.period - s.time.prescale) s = exec (.tick .emit) s) ∧
    (¬s.settled → ∃ part, step s = exec (.tick part) s ∧
      ((∃ w l, part = .lease w ∧ s.lease w = some l ∧ l.owed = true) ∨
        (∃ c ∈ s.claims, part = .claim c.window c.claimant ∧ c.owed = true) ∨
        (∃ t x r, part = .age t x ∧ (s.target t).record x = some r ∧ r.owed = true) ∨
        (s.leasesSettled ∧ (∀ t, s.targetSettled t) ∧
          ((part = .arrive .leases ∧ s.time.due.leases ≠ 0) ∨
            ∃ t, part = .arrive (.target t) ∧ s.time.due.targets.get t ≠ 0))))

/-- DEVICE_RESET sets every block to its reset values, from any state (R21, R42, R60, R75, R78, R136, R146, R161), and
State.reset is that state with RST_N released and an empty queue. That the part starts with the pin released, nothing taken since,
is the model's choice (log 20), and so are the lists of frames that have left it, which start empty (log 3), and the ticks on their way, which are none (log 5). -/
def Obligations.DeviceResetSetsTheResetValues : Prop :=
  ∀ s : State, ∃ t : State, exec .deviceReset s = .next t ∧
    t.rstN = .asserted ∧ t.pending = s.pending ∧
    (∀ w, t.window w = WindowRecord.freeRecord ∧ t.lease w = none) ∧ t.claims = [] ∧
    t.defaultRead = .deny ∧ t.defaultWrite = .deny ∧ t.time = ⟨10, 125, 0, ⟨0, Table.fill 4 0⟩⟩ ∧
    (∀ g, (t.target g).state = .online ∧ (t.target g).link = .training ∧
      (t.target g).freeList = [0, 1, 2, 3, 4, 5, 6, 7, 8, 9, 10, 11, 12, 13, 14, 15] ∧
      (∀ x, (t.target g).record x = none) ∧ (∀ m, (t.target g).waiting.get m = false) ∧ (t.target g).lastServed = 3 ∧
      (t.target g).timeout = 64 ∧ (t.target g).threshold = 4 ∧ (t.target g).consecutive = 0 ∧ (t.target g).strays = 0 ∧
      (∀ m, (t.target g).requesters.get m = false) ∧ (t.target g).mirrors = [] ∧ t.toTarget.get g = []) ∧
    t.engine.setup = .open ∧ t.engine.lastServed = 3 ∧ t.engine.underWay = none ∧
    (∀ m, (t.slot m).state = .idle ∧ (t.slot m).code = 0 ∧ (∀ i, (t.slot m).args.get i = 0) ∧ (t.slot m).result = none ∧
      (∀ i, (t.slot m).words.get i = 0)) ∧
    (∀ m, (t.unit m).queue = ⟨[], none⟩ ∧ (t.unit m).nextSeq = 0 ∧ (t.unit m).view = none ∧ (t.unit m).mask = 0 ∧
      (t.unit m).line = false) ∧
    (∀ m, (t.port m).link = .down ∧ (t.port m).trained = false ∧ (t.port m).cleanup = .clear ∧ (t.port m).inbound = [] ∧
      (∀ g, (t.port m).tags.get g = .free) ∧ (t.port m).generation = 0 ∧ t.toMaster.get m = []) ∧
    State.reset = { t with rstN := .released, pending := [] }

/-- While RST_N is asserted no command but a device reset and the release of the pin changes anything (log 8), nor does an idle
step; the release starts the prescale count from 0 (R42), and with the pin released it does nothing (the model's choice, log 2). -/
def Obligations.ResetPinHoldsThePart : Prop :=
  ∀ s : State,
    (s.rstN = .asserted → (∀ c : Instr, c ≠ .deviceReset → c ≠ .rstNRelease → exec c s = .next s) ∧ idle s = .next s) ∧
    (s.rstN = .asserted →
      exec .rstNRelease s = .next { s with rstN := .released, time := { s.time with prescale := 0 } }) ∧
    (s.rstN = .released → exec .rstNRelease s = .next s)

/-- A tick and its arrivals (R42, R43, R89). The emission, at any prescale count (the model's choice, log 4), returns the prescale
count to 0 and sends one tick on its way to the lease manager and to each target port, and nothing else changes. Its arrival at
each of these blocks is a happening of that block alone, commanded whenever a tick is on its way there: every lease and waiting
claim at the lease manager, or every outstanding record at the target port, that exists then owes one countdown or count, one
tick fewer is on its way to that block, and nothing else changes. Where no tick is on its way it does nothing (log 2). A tick that
comes while countdowns are still owed at the block has every one of them taken first, in the order of log 5, which leaves none;
at the lease manager this is where no two claims are of one master for one window (R64, which every step keeps,
EveryStepKeepsTheLeasesLegal). -/
def Obligations.TickArrivesOnceAtEveryRecord : Prop :=
  ∀ s : State, s.rstN = .released →
    let due := s.time.due
    exec (.tick .emit) s = .next { s with
      time := { s.time with prescale := 0, due := ⟨due.leases + 1, due.targets.each fun n => n + 1⟩ } } ∧
    (due.leases = 0 → exec (.tick (.arrive .leases)) s = .next s) ∧
    (∀ n, due.leases = n + 1 → s.leasesSettled →
      exec (.tick (.arrive .leases)) s = .next { s with
        time := { s.time with due := ⟨n, due.targets⟩ }
        leases := s.leases.each fun l => l.map fun l => { l with owed := true }
        claims := s.claims.map fun c => { c with owed := true } }) ∧
    (due.leases ≠ 0 → s.claims.Pairwise WaitingClaim.apart →
      let counted := allWindows.foldl (fun (u : State) w => u.countLease w) s
      let u := counted.claims.foldl (fun (u : State) c => u.countClaim c.window c.claimant) counted
      u.leasesSettled ∧ u.time = s.time ∧ exec (.tick (.arrive .leases)) s = exec (.tick (.arrive .leases)) u) ∧
    (∀ w, exec (.tick (.lease w)) s = .next (s.countLease w)) ∧
    (∀ w m, exec (.tick (.claim w m)) s = .next (s.countClaim w m)) ∧
    ∀ t : TargetId,
      (due.targets.get t = 0 → exec (.tick (.arrive (.target t))) s = .next s) ∧
      (∀ n, due.targets.get t = n + 1 → s.targetSettled t →
        exec (.tick (.arrive (.target t))) s = .next (State.setTarget
          { s with time := { s.time with due := ⟨due.leases, due.targets.put t n⟩ } } t
          { s.target t with records := (s.target t).records.each fun r => r.map fun r => { r with owed := true } })) ∧
      (due.targets.get t ≠ 0 →
        let u := allXids.foldl (fun (u : State) x => u.countAge t x) s
        u.targetSettled t ∧ u.time = s.time ∧
          exec (.tick (.arrive (.target t))) s = exec (.tick (.arrive (.target t))) u) ∧
      ∀ x, exec (.tick (.age t x)) s = .next (s.countAge t x)

/-- The countdowns and counts that end nothing. A lease's (R50): remaining falls by one, LEASE_WARNING goes to the holder when
that leaves warn_at and warned was no, and nothing else changes. An outstanding record's (R89): its age rises by one, saturating
at 255, and nothing else changes. A lease or a record that owes no countdown for the tick is not counted again (R43, R89). That the warning follows R50 also right
after a renewal to warn_at + 1 is the model's choice (log 24). -/
def Obligations.CountdownsThatEndNothing : Prop :=
  ∀ s : State, s.rstN = .released →
    (∀ (w : WindowId) (l : Lease), s.lease w = some l →
      (l.owed = false → exec (.tick (.lease w)) s = .next s) ∧
      (l.owed = true → 2 ≤ l.remaining → (l.remaining - 1 ≠ l.warnAt ∨ l.warnAt = 0 ∨ l.warned = true) →
        exec (.tick (.lease w)) s =
          .next (s.setLease w (some { l with remaining := l.remaining - 1, owed := false }))) ∧
      (l.owed = true → 2 ≤ l.remaining → l.remaining - 1 = l.warnAt → l.warnAt ≠ 0 → l.warned = false →
        exec (.tick (.lease w)) s =
          .next ((s.setLease w (some { l with remaining := l.remaining - 1, warned := true, owed := false })).post l.holder
            (.leaseWarning w (l.remaining - 1))))) ∧
    (∀ (t : TargetId) (x : Xid) (r : OutRecord), (s.target t).record x = some r →
      (r.owed = false → exec (.tick (.age t x)) s = .next s) ∧
      (r.owed = true → ((s.target t).timeout = 0 ∨ min (r.age + 1) 255 < (s.target t).timeout) →
        exec (.tick (.age t x)) s = .next (s.setTarget t { s.target t with
          records := (s.target t).records.put x (some { r with age := min (r.age + 1) 255, owed := false }) })))

/-- The countdown that brings a lease's remaining time to 0 (R51, R58), as EXPIRED and as the tick's countdown: the lease is
removed, EXPIRED goes to the holder, and then the oldest waiting claim, if there is one, leaves the pool and becomes the lease,
all of its duration remaining and no countdown owed, with GRANTED to its claimant. -/
def Obligations.ExpiryHandsTheWindowOn : Prop :=
  ∀ (s : State) (w : WindowId) (l : Lease) (c : Instr), s.rstN = .released → s.lease w = some l → l.owed = true →
    l.remaining = 1 → (c = .expired w ∨ c = .tick (.lease w)) →
    (s.queueOf w = [] → exec c s = .next ((s.setLease w none).post l.holder (.expired w))) ∧
    (∀ (k : WaitingClaim) (rest : List WaitingClaim), s.queueOf w = k :: rest →
      exec c s = .next
        (((((s.setLease w none).post l.holder (.expired w)).setClaims
          (s.claims.eraseP fun d => decide (d.window = w))).setLease w
            (some ⟨k.claimant, k.kind, k.duration, k.duration, k.warnAt, false, 0, MasterSet.empty, false⟩)).post
              k.claimant (.granted w k.duration)))

/-- The countdown of a waiting claim (R68): a wait limit falls by one, a claim without one only has its countdown taken, and at
0 the claim leaves the pool with CLAIM_LAPSED, WAIT_LIMIT, to its claimant, as CLAIM_LAPSED and as the tick's countdown. -/
def Obligations.ClaimCountdownAndLapse : Prop :=
  ∀ (s : State) (w : WindowId) (m : MasterId) (before after : List WaitingClaim) (c : WaitingClaim),
    s.rstN = .released → s.claims = before ++ c :: after → (∀ d ∈ before ++ after, d.isFor w m = false) →
    c.window = w → c.claimant = m → c.owed = true →
    (c.waitRemaining = none →
      exec (.tick (.claim w m)) s = .next (s.setClaims (before ++ { c with owed := false } :: after))) ∧
    (∀ n, 1 ≤ n → c.waitRemaining = some (n + 1) →
      exec (.tick (.claim w m)) s =
        .next (s.setClaims (before ++ { c with waitRemaining := some n, owed := false } :: after))) ∧
    (c.waitRemaining = some 1 →
      exec (.tick (.claim w m)) s = .next ((s.setClaims (before ++ after)).post m (.claimLapsed w .waitLimit)) ∧
      exec (.claimLapsed w m) s = .next ((s.setClaims (before ++ after)).post m (.claimLapsed w .waitLimit)))

/-- A transaction that times out (R89 to R91, R104, R113, R114), single or a leg, as TIMEOUT and as the tick's count. It ends with
outcome TIMEOUT (`endTransaction`, which ACompletionEndsItsTransaction says in full), and the target's consecutive count rises,
whatever its state. An ONLINE target whose threshold is reached becomes FAULTED, its waiting heads are re-examined, and then every
UP master is told. The last transaction of a FENCING target makes it FENCED in the same happening, with FENCE_DONE to each
requester. Otherwise that is all. The fresh decisions that a fall calls for come last (R17, log 6). -/
def Obligations.TimeoutEndsTheTransaction : Prop :=
  ∀ (s : State) (t : TargetId) (x : Xid) (r : OutRecord) (c : Instr), s.rstN = .released →
    (s.target t).record x = some r → r.owed = true → (s.target t).timeout ≠ 0 →
    (s.target t).timeout ≤ min (r.age + 1) 255 → (c = .timeout t x ∨ c = .tick (.age t x)) →
    let p := s.target t
    let ended := s.endTransaction t x .timeout []
    let counted := ended.setTarget t { ended.target t with consecutive := min (p.consecutive + 1) 255 }
    let reached := p.threshold ≠ 0 ∧ p.threshold ≤ min (p.consecutive + 1) 255
    ((p.state = .online ∧ ¬reached) ∨ (p.state = .fencing ∧ 2 ≤ p.outstanding) ∨ p.state = .fenced ∨ p.state = .faulted →
      exec c s = .next (counted.redecideAfterFalls s)) ∧
    (p.state = .online → reached →
      exec c s = .next
        ((((counted.setTarget t { counted.target t with state := .faulted }).reexamine t).postEach
          (allMasters.filter fun m => decide ((s.port m).link = .up)) (.targetFaulted t .threshold)).redecideAfterFalls s)) ∧
    (p.state = .fencing → p.outstanding = 1 →
      exec c s = .next
        (((counted.postEach p.requesters.members (.fenceDone t .fenced)).setTarget t
          { counted.target t with state := .fenced, requesters := MasterSet.empty }).redecideAfterFalls s))

/-! ### Notices -/

/-- What the notice unit does with a notice posted to a master (R138 to R142, R144). To a port that is UP with no cleanup under
way it is numbered, and appended while fewer than 15 real notices and no OVERFLOW stand in the queue, discarded with an OVERFLOW
of count 1 entering behind 15, and discarded and counted, up to 65535, behind an OVERFLOW, and the line is set afresh. To any
other port it is discarded and changes nothing. -/
def Obligations.PostingANotice : Prop :=
  ∀ (s : State) (m : MasterId) (b : NoticeBody),
    ((s.port m).link = .down ∨ (s.port m).cleanup ≠ .clear → s.post m b = s) ∧
    ((s.port m).link = .up → (s.port m).cleanup = .clear →
      ∃ q : EventQueue,
        s.post m b = s.setUnit m { s.unit m with
          queue := q, nextSeq := (s.unit m).nextSeq + 1, line := lineOf q (s.unit m).mask } ∧
        ((s.unit m).queue.overflow = none → (s.unit m).queue.real.length < 15 →
          q = ⟨(s.unit m).queue.real ++ [⟨(s.unit m).nextSeq, b⟩], none⟩) ∧
        ((s.unit m).queue.overflow = none → 15 ≤ (s.unit m).queue.real.length →
          q = ⟨(s.unit m).queue.real, some ⟨(s.unit m).nextSeq, 1⟩⟩) ∧
        (∀ o, (s.unit m).queue.overflow = some o →
          q = ⟨(s.unit m).queue.real, some ⟨o.seq, min (o.count + 1) 65535⟩⟩))

/-! ### Lease commands -/

/-- A CLAIM granted at once (R48): with its arguments in range, on a DEFINED or ACTIVE window that leases may govern, that nobody
holds and that the caller does not wait for, the caller's lease begins with all its duration remaining, and the result is GRANTED
with the window and the remaining time; nothing else changes and no notice is posted. -/
def Obligations.ClaimGrantedAtOnce : Prop :=
  ∀ (s : State) (m : MasterId) (a : Args) (w : WindowId) (kind : LeaseKind), s.delivered m .claim a →
    argNat a 0 = w.val → argNat a 1 = kind.code → 1 ≤ argNat a 2 → argNat a 2 ≤ 4095 → argNat a 4 < argNat a 2 →
    argNat a 3 ≤ 4095 → ((s.window w).state = .defined ∨ (s.window w).state = .active) → (s.window w).policy ≠ .none →
    s.lease w = none → (∀ c ∈ s.claims, c.window = w → c.claimant ≠ m) →
    exec .claim s = .next ((s.setLease w
      (some ⟨m, kind, argNat a 2, argNat a 2, argNat a 4, false, 0, MasterSet.empty, false⟩)).answered m .granted
        [w.val, argNat a 2])

/-- A CLAIM on a window that is held (R48, R65, R66), its arguments in range: HELD for the holder, DUPLICATE for a master that
already waits, BUSY_WINDOW for wait limit 0, QUEUE_FULL with no slot free, each of these changing nothing; else QUEUED, the claim
joining the tail with its wait remaining, which is absent for 4095, and its position in the result words. -/
def Obligations.ClaimOfAHeldWindow : Prop :=
  ∀ (s : State) (m : MasterId) (a : Args) (w : WindowId) (kind : LeaseKind) (l : Lease), s.delivered m .claim a →
    argNat a 0 = w.val → argNat a 1 = kind.code → 1 ≤ argNat a 2 → argNat a 2 ≤ 4095 → argNat a 4 < argNat a 2 →
    argNat a 3 ≤ 4095 → ((s.window w).state = .defined ∨ (s.window w).state = .active) → (s.window w).policy ≠ .none →
    s.lease w = some l →
    (l.holder = m → exec .claim s = .next (s.answered m .held [])) ∧
    (l.holder ≠ m → (∃ c ∈ s.claims, c.window = w ∧ c.claimant = m) →
      exec .claim s = .next (s.answered m .duplicate [])) ∧
    (l.holder ≠ m → (∀ c ∈ s.claims, c.window = w → c.claimant ≠ m) →
      (argNat a 3 = 0 → exec .claim s = .next (s.answered m .busyWindow [])) ∧
      (argNat a 3 ≠ 0 → 24 ≤ s.claims.length → exec .claim s = .next (s.answered m .queueFull [])) ∧
      (argNat a 3 ≠ 0 → s.claims.length < 24 →
        exec .claim s = .next ((s.setClaims (s.claims ++
          [⟨w, m, kind, argNat a 2, argNat a 4, if argNat a 3 = 4095 then none else some (argNat a 3), false⟩])).answered m
            .queued [w.val, (s.queueOf w).length + 1])))

/-- RENEW by the holder (R53, R54): to the duration given, or its own for 0, all of it remaining again, one renewal more up to
15, warned cleared, the rest of the lease kept; refused CEILING, with nothing changed, while a claim waits and a ceiling other
than 0 has been reached, and before that BAD_FIELD for a duration of 1 to warn_at; and NOT_HOLDER for anyone else, after BAD_FIELD
for a duration above 4095. -/
def Obligations.RenewExtendsTheLease : Prop :=
  ∀ (s : State) (m : MasterId) (a : Args) (w : WindowId) (d : Nat), s.delivered m .renew a → argNat a 0 = w.val →
    argNat a 1 = d →
    (4095 < d → exec .renew s = .next (s.answered m .badField [])) ∧
    (d ≤ 4095 → s.holder w ≠ some m → exec .renew s = .next (s.answered m .notHolder [])) ∧
    (∀ l, d ≤ 4095 → s.lease w = some l → l.holder = m → 1 ≤ d → d ≤ l.warnAt →
      exec .renew s = .next (s.answered m .badField [])) ∧
    (∀ l, d ≤ 4095 → s.lease w = some l → l.holder = m → (d = 0 ∨ l.warnAt < d) →
      (s.queueOf w ≠ [] → (s.window w).ceiling ≠ 0 → (s.window w).ceiling ≤ l.renewals →
        exec .renew s = .next (s.answered m .ceiling [])) ∧
      (s.queueOf w = [] ∨ (s.window w).ceiling = 0 ∨ l.renewals < (s.window w).ceiling →
        let span := if d = 0 then l.duration else d
        exec .renew s = .next ((s.setLease w (some
          { l with duration := span, remaining := span, renewals := min (l.renewals + 1) 15, warned := false })).answered m
            .ok [span, min (l.renewals + 1) 15])))

/-- RELEASE by the holder and REVOKE by anyone whom the class check let through (R55, R56, R58, R70): the lease ends, with
REVOKED to the holder of a revoked lease and no notice for a released one, and the oldest waiting claim, if there is one, becomes
the lease with GRANTED; RELEASE reports the master handed to. A RELEASE by another is NOT_HOLDER and a REVOKE of an unheld window
NOT_HELD, with nothing changed. WITHDRAW takes the caller's own waiting claim out of the pool, and nothing else, with OK, and is
NOT_WAITING for a caller with none (R71). HANDOFF (R58, R70) makes the oldest waiting claim of an unheld window its lease, with
GRANTED to the claimant; commanded alone it does nothing for a window that is held or that no claim waits for (log 7). -/
def Obligations.ReleaseRevokeWithdrawAndHandoff : Prop :=
  (∀ (s : State) (m : MasterId) (a : Args) (w : WindowId), argNat a 0 = w.val →
      (s.delivered m .release a →
        (s.holder w ≠ some m → exec .release s = .next (s.answered m .notHolder [])) ∧
        (s.holder w = some m → s.queueOf w = [] →
          exec .release s = .next ((s.setLease w none).answered m .ok [0xFF])) ∧
        (∀ k rest, s.holder w = some m → s.queueOf w = k :: rest →
          exec .release s = .next
            ((((s.setClaims (s.claims.eraseP fun d => decide (d.window = w))).setLease w
              (some ⟨k.claimant, k.kind, k.duration, k.duration, k.warnAt, false, 0, MasterSet.empty, false⟩)).post
                k.claimant (.granted w k.duration)).answered m .ok [k.claimant.val]))) ∧
      (s.delivered m .revoke a →
        (s.lease w = none → exec .revoke s = .next (s.answered m .notHeld [])) ∧
        (∀ l, s.lease w = some l → s.queueOf w = [] →
          exec .revoke s = .next (((s.setLease w none).post l.holder (.revoked w m)).answered m .ok [])) ∧
        (∀ l k rest, s.lease w = some l → s.queueOf w = k :: rest →
          exec .revoke s = .next
            ((((((s.setLease w none).post l.holder (.revoked w m)).setClaims
              (s.claims.eraseP fun d => decide (d.window = w))).setLease w
                (some ⟨k.claimant, k.kind, k.duration, k.duration, k.warnAt, false, 0, MasterSet.empty, false⟩)).post
                  k.claimant (.granted w k.duration)).answered m .ok [])))) ∧
  ∀ (s : State) (w : WindowId),
    (∀ (m : MasterId) (a : Args), s.delivered m .withdraw a → argNat a 0 = w.val →
      ((∀ c ∈ s.claims, c.isFor w m = false) → exec .withdraw s = .next (s.answered m .notWaiting [])) ∧
      (∀ before c after, s.claims = before ++ c :: after → (∀ d ∈ before, d.isFor w m = false) → c.isFor w m = true →
        exec .withdraw s = .next ((s.setClaims (before ++ after)).answered m .ok []))) ∧
    (s.rstN = .released →
      ((s.lease w ≠ none ∨ s.queueOf w = []) → exec (.handoff w) s = .next s) ∧
      (∀ k rest, s.lease w = none → s.queueOf w = k :: rest →
        exec (.handoff w) s = .next
          (((s.setClaims (s.claims.eraseP fun d => decide (d.window = w))).setLease w
            (some ⟨k.claimant, k.kind, k.duration, k.duration, k.warnAt, false, 0, MasterSet.empty, false⟩)).post
              k.claimant (.granted w k.duration))))

/-! ### Window commands -/

/-- DEFINE_WINDOW (R2, R6, R7): with arguments in range, on a FREE record and with a legal geometry, the record becomes DEFINED
with the values given and both routes DENY, its count and retiring master as they were, and the result is OK; a record that is
not FREE gives SLOT_IN_USE and an illegal geometry BAD_GEOMETRY, the table unchanged. Every head held at the count limit is
decided afresh after a window command, whatever its result, here and below (R17; that a refused one counts as taken, log 6). -/
def Obligations.DefineWindowFillsAFreeRecord : Prop :=
  ∀ (s : State) (m : MasterId) (a : Args) (w : WindowId) (policy : LeasePolicy) (contention : Bool),
    s.delivered m .defineWindow a → argNat a 0 = w.val → argNat a 3 ≤ 3 → argPolicy (argNat a 4) = some policy →
    argNat a 5 < 16 → argNat a 6 < 16 → argFlag (argNat a 7) = some contention → argNat a 8 ≤ 15 →
    ((s.window w).state ≠ .free → exec .defineWindow s = .next (s.redecideHeads.answered m .slotInUse [])) ∧
    ((s.window w).state = .free →
      (argNat a 2 < 12 ∨ 31 < argNat a 2 ∨ argNat a 1 % 2 ^ argNat a 2 ≠ 0 ∨
        argNat a 1 = 0x100000000 - 2 ^ argNat a 2) →
      exec .defineWindow s = .next (s.redecideHeads.answered m .badGeometry [])) ∧
    ((s.window w).state = .free → 12 ≤ argNat a 2 → argNat a 2 ≤ 31 → argNat a 1 % 2 ^ argNat a 2 = 0 →
      argNat a 1 ≠ 0x100000000 - 2 ^ argNat a 2 →
      exec .defineWindow s = .next (((s.setWindow w
        { state := .defined, base := a.get 1, sizeLog2 := argNat a 2, tier := argNat a 3, readRoute := .deny,
          writeRoute := .deny, readSet := Table.ofFn fun i => (argNat a 5).testBit i.val,
          writeSet := Table.ofFn fun i => (argNat a 6).testBit i.val, policy := policy, contention := contention,
          ceiling := argNat a 8, retiringMaster := (s.window w).retiringMaster,
          inFlight := (s.window w).inFlight }).redecideHeads).answered m .ok []))

/-- SET_ROUTE (R3, R6, R8): on a DEFINED window a legal route replaces that of the named direction and no other, with OK; a route
whose target base is not a multiple of the window's size, or a mirror to one target twice, gives BAD_GEOMETRY, and a window that
is not DEFINED gives BAD_STATE, the table unchanged. The heads held at the count limit are decided afresh after each, the refused
ones too (R17, log 6). -/
def Obligations.SetRouteReplacesOneRoute : Prop :=
  ∀ (s : State) (m : MasterId) (a : Args) (w : WindowId), s.delivered m .setRoute a → argNat a 0 = w.val →
    (∀ r, argNat a 1 = 0 → argReadRoute (argNat a 2) (argNat a 3) (a.get 4) = some r →
      ((s.window w).state ≠ .defined → exec .setRoute s = .next (s.redecideHeads.answered m .badState [])) ∧
      ((s.window w).state = .defined → r.geometryOk (s.window w).sizeLog2 = false →
        exec .setRoute s = .next (s.redecideHeads.answered m .badGeometry [])) ∧
      ((s.window w).state = .defined → r.geometryOk (s.window w).sizeLog2 = true →
        exec .setRoute s =
          .next (((s.setWindow w { s.window w with readRoute := r }).redecideHeads).answered m .ok []))) ∧
    (∀ r, argNat a 1 = 1 → argWriteRoute (argNat a 2) (argNat a 3) (a.get 4) (argNat a 5) (a.get 6) = some r →
      ((s.window w).state ≠ .defined → exec .setRoute s = .next (s.redecideHeads.answered m .badState [])) ∧
      ((s.window w).state = .defined → r.geometryOk (s.window w).sizeLog2 = false →
        exec .setRoute s = .next (s.redecideHeads.answered m .badGeometry [])) ∧
      ((s.window w).state = .defined → r.geometryOk (s.window w).sizeLog2 = true →
        exec .setRoute s =
          .next (((s.setWindow w { s.window w with writeRoute := r }).redecideHeads).answered m .ok [])))

/-- SET_ACCESS replaces the five access and lease settings of a DEFINED window, LEASED if that would set NONE on a held one
(R9); ENABLE_WINDOW makes a DEFINED window ACTIVE (R10) and DISABLE_WINDOW an ACTIVE one DEFINED (R11), the rest of the record
kept; in any other state each is BAD_STATE with the table unchanged. The heads held at the count limit are decided afresh after
each, the refused ones too (R17, log 6). -/
def Obligations.AccessEnableAndDisable : Prop :=
  ∀ (s : State) (m : MasterId) (a : Args) (w : WindowId), argNat a 0 = w.val →
    (s.delivered m .setAccess a → ∀ policy contention, argNat a 1 < 16 → argNat a 2 < 16 →
      argPolicy (argNat a 3) = some policy → argFlag (argNat a 4) = some contention → argNat a 5 ≤ 15 →
      ((s.window w).state ≠ .defined → exec .setAccess s = .next (s.redecideHeads.answered m .badState [])) ∧
      ((s.window w).state = .defined → policy = .none → s.lease w ≠ none →
        exec .setAccess s = .next (s.redecideHeads.answered m .leased [])) ∧
      ((s.window w).state = .defined → (policy ≠ .none ∨ s.lease w = none) →
        exec .setAccess s = .next (((s.setWindow w { s.window w with
          readSet := Table.ofFn fun i => (argNat a 1).testBit i.val
          writeSet := Table.ofFn fun i => (argNat a 2).testBit i.val
          policy := policy
          contention := contention
          ceiling := argNat a 5 }).redecideHeads).answered m .ok []))) ∧
    (s.delivered m .enableWindow a →
      ((s.window w).state ≠ .defined → exec .enableWindow s = .next (s.redecideHeads.answered m .badState [])) ∧
      ((s.window w).state = .defined → exec .enableWindow s =
        .next (((s.setWindow w { s.window w with state := .active }).redecideHeads).answered m .ok []))) ∧
    (s.delivered m .disableWindow a →
      ((s.window w).state ≠ .active → exec .disableWindow s = .next (s.redecideHeads.answered m .badState [])) ∧
      ((s.window w).state = .active → exec .disableWindow s =
        .next (((s.setWindow w { s.window w with state := .defined }).redecideHeads).answered m .ok [])))

/-- RETIRE_WINDOW on a DEFINED or ACTIVE window (R12, R13, R73): unforced on a held window it is LEASED with the table unchanged;
unforced on an unheld one, and forced, in which case the lease has first ended with REVOKED to its holder and every waiting claim
for the window with CLAIM_LAPSED, RETIRED, oldest first, it frees a window whose count is 0, with WINDOW_RETIRED to the caller and
OK, and leaves any other RETIRING with the caller as retiring master and ACCEPTED. The heads held at the count limit are decided
afresh after it, and after a LEASED one too (R17, log 6). -/
def Obligations.RetireTakesAWindowOut : Prop :=
  ∀ (s : State) (m : MasterId) (a : Args) (w : WindowId) (force : Bool), s.delivered m .retireWindow a →
    argNat a 0 = w.val → argFlag (argNat a 1) = some force →
    ((s.window w).state = .defined ∨ (s.window w).state = .active) →
    (force = false → s.lease w ≠ none → exec .retireWindow s = .next (s.redecideHeads.answered m .leased [])) ∧
    (∀ cleared : State,
      ((force = false ∧ s.lease w = none ∧ cleared = s) ∨
        (force = true ∧
          ∃ revoked : State,
            (s.lease w = none → revoked = s) ∧
            (∀ l, s.lease w = some l → revoked = (s.setLease w none).post l.holder (.revoked w m)) ∧
            cleared = (s.queueOf w).foldl (fun s c => s.post c.claimant (.claimLapsed w .retired))
              (revoked.setClaims (s.claims.filter fun c => decide (c.window ≠ w))))) →
      ((s.window w).inFlight = 0 →
        exec .retireWindow s = .next
          ((((cleared.setWindow w WindowRecord.freeRecord).post m (.windowRetired w)).redecideHeads).answered m .ok [])) ∧
      ((s.window w).inFlight ≠ 0 →
        exec .retireWindow s = .next
          (((cleared.setWindow w
            { s.window w with state := .retiring, retiringMaster := some m }).redecideHeads).answered m .accepted [])))

/-- The fall of a window's in-flight count (R16, R19): it falls by one and nothing else changes; where it was the last of a
RETIRING window, the record becomes FREE in the same happening, with WINDOW_RETIRED to the retiring master if there is one.
WINDOW_RETIRED, commanded alone (log 7), frees a RETIRING window that counts nothing and does nothing to any other. -/
def Obligations.TheLastFallFreesARetiringWindow : Prop :=
  ∀ (s : State) (w : WindowId),
    ((s.window w).state ≠ .retiring ∨ 2 ≤ (s.window w).inFlight →
      s.countFalls w = s.setWindow w { s.window w with inFlight := (s.window w).inFlight - 1 }) ∧
    ((s.window w).state = .retiring → (s.window w).inFlight = 1 →
      ((s.window w).retiringMaster = none → s.countFalls w = s.setWindow w WindowRecord.freeRecord) ∧
      (∀ m, (s.window w).retiringMaster = some m →
        s.countFalls w = (s.setWindow w WindowRecord.freeRecord).post m (.windowRetired w))) ∧
    (s.rstN = .released →
      ((s.window w).state ≠ .retiring ∨ (s.window w).inFlight ≠ 0 → exec (.windowRetired w) s = .next s) ∧
      ((s.window w).state = .retiring → (s.window w).inFlight = 0 →
        ((s.window w).retiringMaster = none →
          exec (.windowRetired w) s = .next (s.setWindow w WindowRecord.freeRecord)) ∧
        (∀ m, (s.window w).retiringMaster = some m → exec (.windowRetired w) s =
          .next ((s.setWindow w WindowRecord.freeRecord).post m (.windowRetired w)))))

/-- A head held unbound at a count of 64 is decided afresh at each change to the window table (R17): each window command taken,
and each happening in which some window's count has fallen. The fresh decision is a whole new one: it does what STEERING_DECISION
does to the same request as if never decided, against the state as it then stands; a head that is not held is left alone, and at a
held head STEERING_DECISION itself does nothing. The heads are taken in rising master number, at the end of the happening (the
model's choice, log 6). -/
def Obligations.AHeldHeadIsDecidedAfresh : Prop :=
  ∀ s : State,
    s.redecideHeads = (((s.redecideHead 0).redecideHead 1).redecideHead 2).redecideHead 3 ∧
    (∀ before : State,
      ((∃ w, (s.window w).inFlight < (before.window w).inFlight) → s.redecideAfterFalls before = s.redecideHeads) ∧
      ((∀ w, (before.window w).inFlight ≤ (s.window w).inFlight) → s.redecideAfterFalls before = s)) ∧
    ∀ m : MasterId,
      ((∀ r rest, (s.port m).inbound = r :: rest → r.binding ≠ .unbound true) → s.redecideHead m = s) ∧
      (∀ r rest, (s.port m).inbound = r :: rest → r.binding = .unbound true → s.rstN = .released →
        exec (.steeringDecision m) s = .next s ∧
        (inControlPage r.address = false →
          exec (.steeringDecision m)
              (s.setPort m { s.port m with inbound := { r with binding := .unbound false } :: rest }) =
            .next (s.redecideHead m)))

/-- The first checks of the delivered commands. BAD_INDEX comes first, for a window index of 48 or more (R6, R14, R47) and for a
target number above 3 (R97, R109). Then BAD_FIELD, for a value that a window command does not define (R6, R8, R9, R164) and for
CLAIM's kind, duration, warn_at and wait limit (R48). Then, for a window that is FREE or RETIRING, BAD_STATE of RETIRE_WINDOW
(R12) and of CLAIM, and CLAIM's NOT_LEASABLE for the policy NONE (R48). A flag above 1 and a set with a bit above bit 3 are among
the values not defined (R164; the place of that check, log 19). No result word is filled, FENCE_TARGET's and UNFENCE_TARGET's
BAD_INDEX among them (log 16). Each changes nothing but the slot and, for a command taken at the window table, what the fresh
decisions at the count limit change (R17, log 6). -/
def Obligations.TheFirstChecksOfDeliveredCommands : Prop :=
  ∀ (s : State) (m : MasterId) (a : Args),
    (48 ≤ argNat a 0 →
      (∀ p ∈ ([(.defineWindow, .defineWindow), (.setRoute, .setRoute), (.setAccess, .setAccess),
          (.enableWindow, .enableWindow), (.disableWindow, .disableWindow), (.retireWindow, .retireWindow),
          (.queryWindow, .queryWindow)] : List (Instr × Command)),
        s.delivered m p.2 a → exec p.1 s = .next (s.redecideHeads.answered m .badIndex [])) ∧
      (∀ p ∈ ([(.claim, .claim), (.renew, .renew), (.release, .release), (.withdraw, .withdraw),
          (.revoke, .revoke)] : List (Instr × Command)),
        s.delivered m p.2 a → exec p.1 s = .next (s.answered m .badIndex []))) ∧
    (4 ≤ argNat a 0 →
      ∀ p ∈ ([(.queryTarget, .queryTarget), (.fenceTarget, .fenceTarget), (.unfenceTarget, .unfenceTarget)] :
          List (Instr × Command)),
        s.delivered m p.2 a → exec p.1 s = .next (s.answered m .badIndex [])) ∧
    (argNat a 0 < 48 →
      (s.delivered m .defineWindow a →
        3 < argNat a 3 ∨ 2 < argNat a 4 ∨ 15 < argNat a 5 ∨ 15 < argNat a 6 ∨ 1 < argNat a 7 ∨ 15 < argNat a 8 →
        exec .defineWindow s = .next (s.redecideHeads.answered m .badField [])) ∧
      (s.delivered m .setRoute a →
        1 < argNat a 1 ∨ 4 < argNat a 2 ∨ (argNat a 1 = 0 ∧ (argNat a 2 = 2 ∨ argNat a 2 = 4)) ∨
          (argNat a 1 = 1 ∧ argNat a 2 = 1) ∨ (3 ≤ argNat a 2 ∧ 3 < argNat a 3) ∨ (argNat a 2 = 4 ∧ 3 < argNat a 5) →
        exec .setRoute s = .next (s.redecideHeads.answered m .badField [])) ∧
      (s.delivered m .setAccess a →
        15 < argNat a 1 ∨ 15 < argNat a 2 ∨ 2 < argNat a 3 ∨ 1 < argNat a 4 ∨ 15 < argNat a 5 →
        exec .setAccess s = .next (s.redecideHeads.answered m .badField [])) ∧
      (s.delivered m .retireWindow a → 1 < argNat a 1 →
        exec .retireWindow s = .next (s.redecideHeads.answered m .badField []))) ∧
    (∀ w : WindowId, argNat a 0 = w.val →
      (s.delivered m .retireWindow a → argNat a 1 ≤ 1 →
        (s.window w).state = .free ∨ (s.window w).state = .retiring →
        exec .retireWindow s = .next (s.redecideHeads.answered m .badState [])) ∧
      (s.delivered m .claim a →
        let kind := argNat a 1
        let fieldsOk := (kind = 1 ∨ kind = 2) ∧ 1 ≤ argNat a 2 ∧ argNat a 2 ≤ 4095 ∧ argNat a 4 < argNat a 2 ∧
          argNat a 3 ≤ 4095
        (¬fieldsOk → exec .claim s = .next (s.answered m .badField [])) ∧
        (fieldsOk → (s.window w).state = .free ∨ (s.window w).state = .retiring →
          exec .claim s = .next (s.answered m .badState [])) ∧
        (fieldsOk → (s.window w).state = .defined ∨ (s.window w).state = .active → (s.window w).policy = .none →
          exec .claim s = .next (s.answered m .notLeasable []))))

/-- The three settings commands. SET_DEFAULT replaces the default route of its direction (R15). SET_TICK takes the scale and
divider and starts the prescale count from 0 (R44); a tick already emitted is still on its way (log 5). SET_TARGET takes the timeout and threshold of one target (R96). Each gives OK
and changes nothing else, but that after SET_DEFAULT the heads held at the count limit are decided afresh (R17, log 6); out of
range each is BAD_FIELD, with its settings as they were, and a target number above 3 BAD_INDEX. -/
def Obligations.SettingsCommands : Prop :=
  ∀ (s : State) (m : MasterId) (a : Args),
    (s.delivered m .setDefault a →
      (∀ r, argNat a 0 = 0 → argDefaultRoute (argNat a 1) (argNat a 2) = some r →
        exec .setDefault s = .next ((State.redecideHeads { s with defaultRead := r }).answered m .ok [])) ∧
      (∀ r, argNat a 0 = 1 → argDefaultRoute (argNat a 1) (argNat a 2) = some r →
        exec .setDefault s = .next ((State.redecideHeads { s with defaultWrite := r }).answered m .ok [])) ∧
      (1 < argNat a 0 ∨ (argNat a 1 ≠ 0 ∧ argNat a 1 ≠ 3) ∨ (argNat a 1 = 3 ∧ 3 < argNat a 2) →
        exec .setDefault s = .next (s.redecideHeads.answered m .badField []))) ∧
    (s.delivered m .setTick a →
      (argNat a 0 ≤ 15 → 1 ≤ argNat a 1 → argNat a 1 ≤ 256 →
        exec .setTick s = .next (State.answered { s with time := ⟨argNat a 0, argNat a 1, 0, s.time.due⟩ } m .ok [])) ∧
      (15 < argNat a 0 ∨ argNat a 1 = 0 ∨ 256 < argNat a 1 → exec .setTick s = .next (s.answered m .badField []))) ∧
    (s.delivered m .setTarget a →
      (∀ t : TargetId, argNat a 0 = t.val → argNat a 1 ≤ 255 → argNat a 2 ≤ 15 →
        exec .setTarget s = .next
          ((s.setTarget t { s.target t with timeout := argNat a 1, threshold := argNat a 2 }).answered m .ok [])) ∧
      (argNat a 0 ≤ 3 → 255 < argNat a 1 ∨ 15 < argNat a 2 →
        exec .setTarget s = .next (s.answered m .badField [])) ∧
      (3 < argNat a 0 → exec .setTarget s = .next (s.answered m .badIndex [])))

/-- The two queries report. QUERY_WINDOW gives the seven words of R14 and R165, and the heads held at the count limit are then
decided afresh, since it is a window command taken (R17; that a query counts as one, log 6), which is all it changes;
QUERY_TARGET gives the eight words of R97, and with clear_strays then sets the stray count to 0, and changes nothing else; a
clear_strays flag above 1 is BAD_FIELD with nothing changed (R164; R97 names no such result, log 19). -/
def Obligations.QueriesReport : Prop :=
  ∀ (s : State) (m : MasterId) (a : Args),
    (∀ w : WindowId, s.delivered m .queryWindow a → argNat a 0 = w.val →
      (s.lease w = none → exec .queryWindow s = .next (s.redecideHeads.answered m .ok
        [(s.window w).state.code, (s.window w).tier, 0xFF, 0, 0, (s.queueOf w).length, (s.window w).inFlight])) ∧
      (∀ l, s.lease w = some l → exec .queryWindow s = .next (s.redecideHeads.answered m .ok
        [(s.window w).state.code, (s.window w).tier, l.holder.val, l.kind.code, l.remaining, (s.queueOf w).length,
         (s.window w).inFlight]))) ∧
    (∀ t : TargetId, s.delivered m .queryTarget a → argNat a 0 = t.val →
      let words := [(s.target t).state.code, (s.target t).link.code, (s.target t).outstanding,
        (s.target t).waiting.members.length, (s.target t).consecutive, (s.target t).strays, (s.target t).timeout,
        (s.target t).threshold]
      (argNat a 1 = 0 → exec .queryTarget s = .next (s.answered m .ok words)) ∧
      (argNat a 1 = 1 → exec .queryTarget s =
        .next ((s.setTarget t { s.target t with strays := 0 }).answered m .ok words)) ∧
      (1 < argNat a 1 → exec .queryTarget s = .next (s.answered m .badField [])))

/-! ### Fences -/

/-- FENCE_TARGET (R110 to R112). An ONLINE or FAULTED target leaves its state, its waiting heads are re-examined, and the caller
either joins the requesters of a FENCING target that still has transactions outstanding, or is told FENCE_DONE of one that is
FENCED at once, and the fresh decisions that a refused head's fall calls for come last (R17, log 6); a FENCING target takes the caller into the set once; the result is ACCEPTED, and ALREADY where there was nothing
to do, with the state and the outstanding count in the result words. FENCE_DONE (R113), commanded alone (log 7), makes a FENCING
target with nothing outstanding FENCED, tells the requesters in rising master number and empties the set. -/
def Obligations.FenceTargetAndItsDrain : Prop :=
  ∀ (s : State) (t : TargetId),
    (∀ (m : MasterId) (a : Args), s.delivered m .fenceTarget a → argNat a 0 = t.val →
      ((s.target t).state = .online ∨ (s.target t).state = .faulted → (s.target t).outstanding = 0 →
        exec .fenceTarget s = .next
          (((((s.setTarget t { s.target t with state := .fenced }).reexamine t).post m
            (.fenceDone t .fenced)).redecideAfterFalls s).answered m .accepted [2, 0])) ∧
      ((s.target t).state = .online ∨ (s.target t).state = .faulted → (s.target t).outstanding ≠ 0 →
        exec .fenceTarget s = .next
          ((((s.setTarget t { s.target t with
            state := .fencing, requesters := (s.target t).requesters.insert m }).reexamine t).redecideAfterFalls s).answered m
              .accepted [1, (s.target t).outstanding])) ∧
      ((s.target t).state = .fencing → (s.target t).requesters.get m = false →
        exec .fenceTarget s = .next
          ((s.setTarget t { s.target t with requesters := (s.target t).requesters.insert m }).answered m
            .accepted [1, (s.target t).outstanding])) ∧
      ((s.target t).state = .fencing → (s.target t).requesters.get m = true →
        exec .fenceTarget s = .next (s.answered m .already [1, (s.target t).outstanding])) ∧
      ((s.target t).state = .fenced →
        exec .fenceTarget s = .next (s.answered m .already [2, (s.target t).outstanding]))) ∧
    (s.rstN = .released →
      ((s.target t).state ≠ .fencing ∨ (s.target t).outstanding ≠ 0 → exec (.fenceDone t) s = .next s) ∧
      ((s.target t).state = .fencing → (s.target t).outstanding = 0 →
        exec (.fenceDone t) s = .next
          ((s.postEach ((s.target t).requesters.members) (.fenceDone t .fenced)).setTarget t
            { s.target t with state := .fenced, requesters := MasterSet.empty })))

/-- UNFENCE_TARGET (R115, R116): the return to ONLINE, with FENCE_CANCELLED to each requester of a cancelled fence first, the
consecutive count 0 and TARGET_RESTORED, naming the state left, to every UP master, gives ACCEPTED; a FENCED or FAULTED target
with its link DOWN is LINK_DOWN and an ONLINE one ALREADY, nothing changed. -/
def Obligations.UnfenceTargetRestores : Prop :=
  ∀ (s : State) (m : MasterId) (a : Args) (t : TargetId), s.delivered m .unfenceTarget a → argNat a 0 = t.val →
    let up := allMasters.filter fun k => decide ((s.port k).link = .up)
    let n := (s.target t).outstanding
    ((s.target t).state = .online → exec .unfenceTarget s = .next (s.answered m .already [0, n])) ∧
    ((s.target t).state = .fencing → (s.target t).link ≠ .down →
      exec .unfenceTarget s = .next
        ((((s.postEach (s.target t).requesters.members (.fenceCancelled t)).setTarget t
          { s.target t with state := .online, consecutive := 0, requesters := MasterSet.empty }).postEach up
            (.targetRestored t .fencing)).answered m .accepted [0, n])) ∧
    ((s.target t).state = .fenced → (s.target t).link ≠ .down →
      exec .unfenceTarget s = .next
        (((s.setTarget t { s.target t with state := .online, consecutive := 0 }).postEach up
          (.targetRestored t .fenced)).answered m .accepted [0, n])) ∧
    ((s.target t).state = .faulted → (s.target t).link = .up →
      exec .unfenceTarget s = .next
        (((s.setTarget t { s.target t with state := .online, consecutive := 0 }).postEach up
          (.targetRestored t .faulted)).answered m .accepted [0, n])) ∧
    ((s.target t).state = .fenced → (s.target t).link = .down →
      exec .unfenceTarget s = .next (s.answered m .linkDown [2, n])) ∧
    ((s.target t).state = .faulted → (s.target t).link = .down →
      exec .unfenceTarget s = .next (s.answered m .linkDown [3, n]))

/-- The re-examination of the waiting set of a target takes its members one after the other, in rising master number (the order,
log 10). The re-examination of one waiting head when target `t` has left ONLINE (R38, R102, R103): a head with this one target is
refused with the code of the target's state, a two-leg mirror write goes on waiting at its other target with this leg skipped, and
a skipped-leg mirror write sent here is refused, TARGET_FAULTED if either of its targets is FAULTED; each refusal lowers the
window's count, and in every case the master leaves the waiting set. -/
def Obligations.AWaitingHeadIsReexamined : Prop :=
  (∀ (s : State) (t : TargetId),
    s.reexamine t =
      (([0, 1, 2, 3] : List MasterId).filter fun m => (s.target t).waiting.get m).foldl (fun u m => u.reexamineHead t m) s) ∧
  ∀ (s : State) (m : MasterId) (t : TargetId) (r : Request) (rest : List Request) (g : Nat) (w : Option WindowId),
    (s.port m).inbound = r :: rest →
    let out := s.setTarget t { s.target t with waiting := (s.target t).waiting.erase m }
    (∀ a, r.binding = .bound ⟨g, w, .single t a⟩ →
      s.reexamineHead t m =
        (out.returned m ⟨r.tag, .refused,
          some (if (s.target t).state = .faulted then .targetFaulted else .targetFenced), []⟩).bindingEnds w) ∧
    (∀ t1 a1 t2 a2, r.binding = .bound ⟨g, w, .mirror t1 a1 t2 a2 none⟩ → (t1 = t ∨ t2 = t) →
      s.reexamineHead t m = out.setPort m { s.port m with
        inbound := { r with
          binding := .bound ⟨g, w, .mirror t1 a1 t2 a2 (some (if t1 = t then .one else .two))⟩ } :: rest }) ∧
    (∀ t1 a1 t2 a2 k, r.binding = .bound ⟨g, w, .mirror t1 a1 t2 a2 (some k)⟩ →
      (k = .one → t2 = t) → (k = .two → t1 = t) →
      s.reexamineHead t m =
        (out.returned m ⟨r.tag, .refused,
          some (if (s.target t1).state = .faulted ∨ (s.target t2).state = .faulted then .targetFaulted
            else .targetFenced), []⟩).bindingEnds w)

/-! ### Delivered commands and the engine -/

/-- A delivered command that is refused, or has nothing to do, changes nothing: its slot is DONE with the result, and, for the
eight commands taken at the window table and for no other, the heads held at the count limit are decided afresh (R6, R17, R47,
R134; that a refused command counts as taken, log 6). -/
def Obligations.RefusedCommandsChangeNothing : Prop :=
  ∀ (c : Instr) (k : Command) (s t : State) (m : MasterId) (a : Args) (r : Result), deliveredBy c = some k →
    s.delivered m k a → exec c s = .next t → (t.slot m).result = some r → r.accepts = false →
    let atTheTable : List Command :=
      [.defineWindow, .setRoute, .setAccess, .enableWindow, .disableWindow, .retireWindow, .setDefault, .queryWindow]
    ∃ words : List Nat,
      (k ∈ atTheTable → t = s.redecideHeads.answered m r words) ∧ (k ∉ atTheTable → t = s.answered m r words)

/-- A delivered command whose result is to be discarded, since its master's slot has been cleaned up, has its whole effect all
the same; the command under way ends and every slot is left as it was (R134, R135). -/
def Obligations.ADiscardedResultLeavesTheEffect : Prop :=
  ∀ (c : Instr) (k : Command) (s t : State) (m : MasterId) (a : Args), deliveredBy c = some k →
    s.delivered m k a → exec c s = .next t →
    exec c { s with engine := { s.engine with underWay := some ⟨m, k, a, true⟩ } } =
      .next { t with engine := { t.engine with slots := s.engine.slots } }

/-- TAKE_SETUP (R122): the caller of an OPEN right becomes its holder with OK; the holder itself gets ALREADY, any other master
SETUP_HELD while it is held, and SETUP_CLOSED once it is CLOSED, with no effect; the result words carry the holder after the
command, 0xFF for none, nothing else changes and no notice is posted. So the first of two that are taken holds the right and the
second, whoever it is, finds it held by the first. -/
def Obligations.TakeSetupTakesAnOpenRight : Prop :=
  ∀ (s : State) (m : MasterId), s.takes m 0x01#8 →
    (s.engine.setup = .open → exec .commandTake s = .next (s.served m (.held m) .ok [m.val])) ∧
    (s.engine.setup = .held m → exec .commandTake s = .next (s.served m (.held m) .already [m.val])) ∧
    (∀ h : MasterId, h ≠ m → s.engine.setup = .held h →
      exec .commandTake s = .next (s.served m (.held h) .setupHeld [h.val])) ∧
    (s.engine.setup = .closed → exec .commandTake s = .next (s.served m .closed .setupClosed [0xFF])) ∧
    (∀ (k : MasterId) (t : State), s.engine.setup = .open → exec .commandTake s = .next t → k ≠ m → t.takes k 0x01#8 →
      exec .commandTake t = .next (t.served k (.held m) .setupHeld [m.val]))

/-- HAND_SETUP and CLOSE_SETUP by the holder (R123, R125): the right passes to the master named, with SETUP_HANDED to it and that
master in the result words, but BAD_FIELD for the caller itself or a number above 3 and PORT_DOWN for a port that is DOWN, with
nothing changed; CLOSE_SETUP makes it CLOSED with OK and no notice. -/
def Obligations.HandAndCloseSetup : Prop :=
  ∀ (s : State) (m : MasterId), s.engine.setup = .held m →
    (s.takes m 0x02#8 →
      (3 < argNat (s.slot m).args 0 ∨ argNat (s.slot m).args 0 = m.val →
        exec .commandTake s = .next (s.served m (.held m) .badField [])) ∧
      (∀ k : MasterId, k ≠ m → argNat (s.slot m).args 0 = k.val → (s.port k).link = .down →
        exec .commandTake s = .next (s.served m (.held m) .portDown [])) ∧
      (∀ k : MasterId, k ≠ m → argNat (s.slot m).args 0 = k.val → (s.port k).link = .up →
        exec .commandTake s = .next ((s.post k (.setupHanded m)).served m (.held k) .ok [k.val]))) ∧
    (s.takes m 0x04#8 → exec .commandTake s = .next (s.served m .closed .ok []))

/-- DROP_SETUP (R124): by the holder it makes the right OPEN with OK, nothing else changed and no notice posted; by any other
master it is refused by its class. From then on, while the right is OPEN, a take of any setup class command is refused NOT_SETUP
and one of a fence class command is delivered. -/
def Obligations.DropSetupOpensTheRight : Prop :=
  ∀ (s : State) (m : MasterId),
    (s.takes m 0x03#8 →
      (s.engine.setup = .held m → exec .commandTake s = .next (s.served m .open .ok [])) ∧
      (s.engine.setup = .open ∨ (∃ h : MasterId, h ≠ m ∧ s.engine.setup = .held h) →
        exec .commandTake s = .next (s.served m s.engine.setup .notSetup [])) ∧
      (s.engine.setup = .closed → exec .commandTake s = .next (s.served m .closed .setupClosed []))) ∧
    (s.engine.setup = .open → s.rstN = .released → s.nextTake = some m →
      (∀ c : Command, commandOf (s.slot m).code = some c → c.permission = .setup →
        exec .commandTake s = .next (s.served m .open .notSetup [])) ∧
      (∀ c : Command, commandOf (s.slot m).code = some c → c.permission = .fence →
        exec .commandTake s = .next ({ s with engine :=
          { setup := .open, lastServed := m, underWay := some ⟨m, c, (s.slot m).args, false⟩,
            slots := s.engine.slots.put m { s.slot m with state := .executing } } })))

/-- QUERY_SETUP (R127): taken from any master in any state of the right it gives OK and changes nothing; its result words hold
the state, the holder or 0xFF, and the caller; and the setup status word shows the same state and holder, here to any master. -/
def Obligations.QuerySetupReportsTheRight : Prop :=
  ∀ (s : State) (m : MasterId),
    (s.takes m 0x05#8 →
      (s.engine.setup = .open → exec .commandTake s = .next (s.served m .open .ok [0, 0xFF, m.val])) ∧
      (∀ h : MasterId, s.engine.setup = .held h →
        exec .commandTake s = .next (s.served m (.held h) .ok [1, h.val, m.val])) ∧
      (s.engine.setup = .closed → exec .commandTake s = .next (s.served m .closed .ok [2, 0xFF, m.val]))) ∧
    (s.engine.setup = .open → s.pageRead m .setupStatus = BitVec.ofNat 32 (0 + 0xFF <<< 8)) ∧
    (∀ h : MasterId, s.engine.setup = .held h → s.pageRead m .setupStatus = BitVec.ofNat 32 (1 + h.val <<< 8)) ∧
    (s.engine.setup = .closed → s.pageRead m .setupStatus = BitVec.ofNat 32 (2 + 0xFF <<< 8))

/-- The take of a slot (R128, R132, R133). While a command is under way nothing is taken. Otherwise the first slot that is
PENDING is taken in turn after last served. While the cleanup of its master is under way a PENDING command is passed over if it
would reach the lease manager (R59) or is FENCE_TARGET (R120), and so is a permitted one whose window table or target port has
taken its part already, so that a command is always taken at its block before the cleanup's part there (R135, R158; the reading,
log 12). A code that names no command is BAD_COMMAND, a setup class command of another than the holder NOT_SETUP or
SETUP_CLOSED, a fence class command of another than a holder NOT_SETUP; and a permitted command of another block is delivered with its arguments, its slot EXECUTING. -/
def Obligations.CommandTakeServesInTurn : Prop :=
  ∀ s : State,
    (s.rstN = .released → (s.engine.underWay ≠ none ∨ (∀ m, s.takeable m = false)) → exec .commandTake s = .next s) ∧
    (∀ m : MasterId, s.takeable m = true ↔ (s.slot m).state = .pending ∧
      ∀ left, (s.port m).cleanup = .underWay left → ∀ c, commandOf (s.slot m).code = some c →
        c ∉ ([.claim, .renew, .release, .withdraw, .revoke, .retireWindow, .queryWindow, .fenceTarget] : List Command) ∧
        (s.engine.setup = .held m ∨ c.permission = .any ∨
            (c.permission = .fence ∧ (s.engine.setup = .open ∨ s.engine.setup = .closed)) →
          (c ∈ ([.defineWindow, .setRoute, .setAccess, .enableWindow, .disableWindow, .setDefault] : List Command) →
            .windows ∈ left) ∧
          (∀ t : TargetId, c ∈ ([.setTarget, .queryTarget, .unfenceTarget] : List Command) →
            argNat (s.slot m).args 0 = t.val → .target t ∈ left))) ∧
    (∀ m : MasterId, s.engine.underWay = none → s.takeable m = true →
      (∀ k : MasterId, s.takeable k = true → (m - s.engine.lastServed - 1).val ≤ (k - s.engine.lastServed - 1).val) →
      s.nextTake = some m) ∧
    (∀ m : MasterId, s.rstN = .released → s.nextTake = some m →
      (commandOf (s.slot m).code = none → exec .commandTake s = .next (s.served m s.engine.setup .badCommand [])) ∧
      (∀ c : Command, commandOf (s.slot m).code = some c →
        (c.permission = .setup → s.engine.setup = .closed →
          exec .commandTake s = .next (s.served m .closed .setupClosed [])) ∧
        (c.permission = .setup → s.engine.setup ≠ .closed → s.engine.setup ≠ .held m →
          exec .commandTake s = .next (s.served m s.engine.setup .notSetup [])) ∧
        (∀ h : MasterId, h ≠ m → c.permission = .fence → s.engine.setup = .held h →
          exec .commandTake s = .next (s.served m (.held h) .notSetup [])) ∧
        (c.engineOwned = false →
          (s.engine.setup = .held m ∨ c.permission = .any ∨
            (c.permission = .fence ∧ (s.engine.setup = .open ∨ s.engine.setup = .closed))) →
          exec .commandTake s = .next ({ s with engine :=
            { setup := s.engine.setup, lastServed := m, underWay := some ⟨m, c, (s.slot m).args, false⟩,
              slots := s.engine.slots.put m { s.slot m with state := .executing } } }))))

/-! ### Steering -/

/-- The matched window of an address (R25): an ACTIVE window whose range contains it, of the highest tier among those, and of the
lowest index at that tier; and there is none exactly when no ACTIVE window contains the address. And the lease check's table on a
matched window (R28, R46): held by another master, SOLE refuses reads and writes and WRITE refuses writes, HELD_ELSEWHERE; the
holder passes under either kind; and while nobody holds the window only a write under HOLD_TO_WRITE is refused, NOT_HOLDER. -/
def Obligations.TheMatchAndTheLeaseCheck : Prop :=
  (∀ (s : State) (address : Word),
      (s.matchWindow address = none ↔ ∀ w, (s.window w).candidate address = false) ∧
      (∀ w, s.matchWindow address = some w ↔
        (s.window w).candidate address = true ∧
        ∀ v, (s.window v).candidate address = true →
          (s.window v).tier < (s.window w).tier ∨ ((s.window v).tier = (s.window w).tier ∧ w ≤ v)) ∧
      (∀ w, (s.window w).candidate address = true ↔
        (s.window w).state = .active ∧ (s.window w).base.toNat ≤ address.toNat ∧
          address.toNat ≤ (s.window w).base.toNat + 2 ^ (s.window w).sizeLog2 - 1)) ∧
  ∀ (s : State) (m : MasterId) (w : WindowId) (k : Kind),
    (∀ l, s.lease w = some l → l.holder = m → s.leaseCheck m w k = none) ∧
    (∀ l, s.lease w = some l → l.holder ≠ m → (l.kind = .sole ∨ k = .write) →
      s.leaseCheck m w k = some .heldElsewhere) ∧
    (∀ l, s.lease w = some l → l.holder ≠ m → l.kind = .write → k = .read → s.leaseCheck m w k = none) ∧
    (s.lease w = none → (s.window w).policy = .holdToWrite → k = .write → s.leaseCheck m w k = some .notHolder) ∧
    (s.lease w = none → ((s.window w).policy ≠ .holdToWrite ∨ k = .read) → s.leaseCheck m w k = none)

/-- The decisions that complete their request at once (R24, R26, R27, R28, R30, R31, R35): each returns its completion, lets the
head leave and frees its tag, and nothing else changes, but that a HELD_ELSEWHERE refusal on a window that reports contention
puts a master not yet reported into the lease's reported set and posts CONTENTION to the holder. -/
def Obligations.DecisionsThatCompleteAtOnce : Prop :=
  ∀ (s : State) (m : MasterId) (r : Request), s.decides m r →
    (inControlPage r.address = true → (r.length ≠ 4 ∨ r.address.toNat % 4 ≠ 0) →
      exec (.steeringDecision m) s = .next (s.returned m ⟨r.tag, .refused, some .malformed, []⟩)) ∧
    (inControlPage r.address = false → s.matchWindow r.address = none → s.defaultRoute r.kind = .deny →
      exec (.steeringDecision m) s = .next (s.returned m ⟨r.tag, .refused, some .noRoute, []⟩)) ∧
    (∀ w, inControlPage r.address = false → s.matchWindow r.address = some w →
      (((s.window w).setFor r.kind).get m = false →
        exec (.steeringDecision m) s = .next (s.returned m ⟨r.tag, .refused, some .noAccess, []⟩)) ∧
      (((s.window w).setFor r.kind).get m = true →
        (s.leaseCheck m w r.kind = some .notHolder →
          exec (.steeringDecision m) s = .next (s.returned m ⟨r.tag, .refused, some .notHolder, []⟩)) ∧
        (∀ l, s.lease w = some l → s.leaseCheck m w r.kind = some .heldElsewhere →
          ((s.window w).contention = false ∨ l.reported.get m = true →
            exec (.steeringDecision m) s = .next (s.returned m ⟨r.tag, .refused, some .heldElsewhere, []⟩)) ∧
          ((s.window w).contention = true → l.reported.get m = false →
            exec (.steeringDecision m) s = .next
              (((s.returned m ⟨r.tag, .refused, some .heldElsewhere, []⟩).setLease w
                (some { l with reported := l.reported.insert m })).post l.holder (.contention w m)))))) ∧
    (∀ w, s.reaches m r w →
      (r.kind = .read → (s.window w).readRoute = .deny →
        exec (.steeringDecision m) s = .next (s.returned m ⟨r.tag, .refused, some .routeDeny, []⟩)) ∧
      (r.kind = .write → (s.window w).writeRoute = .deny →
        exec (.steeringDecision m) s = .next (s.returned m ⟨r.tag, .refused, some .routeDeny, []⟩)) ∧
      (r.kind = .read → (s.window w).readRoute = .fill →
        exec (.steeringDecision m) s =
          .next (s.returned m ⟨r.tag, .ok, none, List.replicate r.length 0xFF#8⟩)) ∧
      (r.kind = .write → (s.window w).writeRoute = .discard →
        exec (.steeringDecision m) s = .next (s.returned m ⟨r.tag, .ok, none, []⟩)))

/-- The decision of a request with one target, by a TARGET route or a TARGET default route (R17, R26, R32, R33, R36, R83): to a
target that is ONLINE the head is bound with the port's generation, the window and the translated address, or with no window and
its own address, the window's count rises and the master joins the waiting set; at a count of 64 a window's request is
held unbound; and a target that is not ONLINE refuses it, TARGET_FAULTED or TARGET_FENCED. -/
def Obligations.ASingleTargetRequestIsBound : Prop :=
  ∀ (s : State) (m : MasterId) (r : Request) (rest : List Request) (t : TargetId), (s.port m).inbound = r :: rest →
    (∀ w base, s.reaches m r w →
      (r.kind = .read ∧ (s.window w).readRoute = .target t base ∨
        r.kind = .write ∧ (s.window w).writeRoute = .target t base) →
      ((s.target t).state = .online → (s.window w).inFlight < 64 →
        let route := BoundRoute.single t (base + (r.address - (s.window w).base))
        exec (.steeringDecision m) s = .next
          (((s.setPort m { s.port m with
              inbound := { r with binding := .bound ⟨(s.port m).generation, some w, route⟩ } :: rest }).setWindow w
                { s.window w with inFlight := (s.window w).inFlight + 1 }).setTarget t
                  { s.target t with waiting := (s.target t).waiting.insert m })) ∧
      ((s.target t).state = .online → 64 ≤ (s.window w).inFlight →
        exec (.steeringDecision m) s = .next
          (s.setPort m { s.port m with inbound := { r with binding := .unbound true } :: rest }))) ∧
    (s.decides m r → inControlPage r.address = false → s.matchWindow r.address = none →
      s.defaultRoute r.kind = .target t → (s.target t).state = .online →
      exec (.steeringDecision m) s = .next
        ((s.setPort m { s.port m with
          inbound := { r with binding := .bound ⟨(s.port m).generation, none, .single t r.address⟩ } :: rest }).setTarget t
            { s.target t with waiting := (s.target t).waiting.insert m })) ∧
    ((∃ w base, s.reaches m r w ∧
        (r.kind = .read ∧ (s.window w).readRoute = .target t base ∨
          r.kind = .write ∧ (s.window w).writeRoute = .target t base)) ∨
      (s.decides m r ∧ inControlPage r.address = false ∧ s.matchWindow r.address = none ∧
        s.defaultRoute r.kind = .target t) →
      ((s.target t).state = .faulted →
        exec (.steeringDecision m) s = .next (s.returned m ⟨r.tag, .refused, some .targetFaulted, []⟩)) ∧
      ((s.target t).state = .fencing ∨ (s.target t).state = .fenced →
        exec (.steeringDecision m) s = .next (s.returned m ⟨r.tag, .refused, some .targetFenced, []⟩)))

/-- The decision of a write bound by a MIRROR route (R34, R36, R83, R99): both targets ONLINE bind two legs, each at its own
translated address, and the master waits at both; exactly one ONLINE binds the one leg, the other marked skipped, and the master
waits there; either way the window's count rises by one; and with neither ONLINE it is refused, TARGET_FAULTED if either is
FAULTED and TARGET_FENCED otherwise. With a target ONLINE and the count at 64 it is held unbound (R17). -/
def Obligations.AMirrorWriteIsBoundByItsTargets : Prop :=
  ∀ (s : State) (m : MasterId) (r : Request) (rest : List Request) (w : WindowId) (t1 t2 : TargetId) (b1 b2 : Word),
    (s.port m).inbound = r :: rest → s.reaches m r w → r.kind = .write →
    (s.window w).writeRoute = .mirror t1 b1 t2 b2 →
    let a1 := b1 + (r.address - (s.window w).base)
    let a2 := b2 + (r.address - (s.window w).base)
    let bound := fun skipped : Option LegNo =>
      (s.setPort m { s.port m with
        inbound := { r with
          binding := .bound ⟨(s.port m).generation, some w, .mirror t1 a1 t2 a2 skipped⟩ } :: rest }).setWindow w
            { s.window w with inFlight := (s.window w).inFlight + 1 }
    ((s.target t1).state = .online → (s.target t2).state = .online → (s.window w).inFlight < 64 →
      exec (.steeringDecision m) s = .next (((bound none).startWaiting m t1).startWaiting m t2)) ∧
    ((s.target t1).state = .online → (s.target t2).state ≠ .online → (s.window w).inFlight < 64 →
      exec (.steeringDecision m) s = .next ((bound (some .two)).startWaiting m t1)) ∧
    ((s.target t1).state ≠ .online → (s.target t2).state = .online → (s.window w).inFlight < 64 →
      exec (.steeringDecision m) s = .next ((bound (some .one)).startWaiting m t2)) ∧
    ((s.target t1).state = .online ∨ (s.target t2).state = .online → 64 ≤ (s.window w).inFlight →
      exec (.steeringDecision m) s = .next
        (s.setPort m { s.port m with inbound := { r with binding := .unbound true } :: rest })) ∧
    ((s.target t1).state ≠ .online → (s.target t2).state ≠ .online →
      ((s.target t1).state = .faulted ∨ (s.target t2).state = .faulted) →
      exec (.steeringDecision m) s = .next (s.returned m ⟨r.tag, .refused, some .targetFaulted, []⟩)) ∧
    ((s.target t1).state ≠ .online → (s.target t2).state ≠ .online →
      (s.target t1).state ≠ .faulted → (s.target t2).state ≠ .faulted →
      exec (.steeringDecision m) s = .next (s.returned m ⟨r.tag, .refused, some .targetFenced, []⟩))

/-! ### The control page -/

/-- A well-formed read of a control page word other than event port word 0 returns the word's four bytes with OK (their order on
the link, log 9) and changes nothing but the head's leaving, the word being 0 at an offset that is not named (R24, R131, R162,
R163); and a write to an unnamed offset or a read-only word completes OK and has no effect (R163). The words read: the command
word holds the code and in bits 9:8 the slot state, GO reading 0 (R164); the argument, result code and result words are the slot's,
the code 0 for no result and else 1 to 26 (R129, R165); the event port words show the latched view, all 0 for NONE and else the
kind, the notices left and the sequence, then window, target and master, the value, with its codes, and the tag, a field absent for
the kind being 0 (R137, R143, R165); then the notice mask (R144), the default routes, the tick settings and the master links (R166). -/
def Obligations.PlainControlPageAccesses : Prop :=
  (∀ (s : State) (m : MasterId) (r : Request), s.decides m r → inControlPage r.address = true → r.length = 4 →
    r.address.toNat % 4 = 0 →
    (r.kind = .read → r.pageWord ≠ .eventPort0 →
      exec (.steeringDecision m) s =
        .next (s.returned m ⟨r.tag, .ok, none, wordBytes (s.pageRead m r.pageWord)⟩)) ∧
    (r.kind = .read → r.pageWord = .unnamed →
      exec (.steeringDecision m) s = .next (s.returned m ⟨r.tag, .ok, none, [0, 0, 0, 0]⟩)) ∧
    (r.kind = .write → r.pageWord ≠ .command → r.pageWord ≠ .noticeMask → (∀ i, r.pageWord ≠ .argument i) →
      exec (.steeringDecision m) s = .next (s.returned m ⟨r.tag, .ok, none, []⟩) ∧
      exec (.controlPageWrite m) s = .next (s.returned m ⟨r.tag, .ok, none, []⟩))) ∧
  ∀ (s : State) (m : MasterId),
    (∀ n, ((s.slot m).state, n) ∈ [(SlotState.idle, 0), (.pending, 1), (.executing, 2), (.done, 3)] →
      s.pageRead m .command = BitVec.ofNat 32 ((s.slot m).code.toNat + 2 ^ 8 * n)) ∧
    (∀ i, s.pageRead m (.argument i) = (s.slot m).args.get i) ∧ (∀ i, s.pageRead m (.result i) = (s.slot m).words.get i) ∧
    ((s.slot m).result = none → s.pageRead m .resultCode = 0) ∧
    (∀ r n, (s.slot m).result = some r →
      (r, n) ∈ ([.ok, .accepted, .granted, .queued, .already, .badCommand, .badField, .badIndex, .badState, .badGeometry,
        .slotInUse, .leased, .notSetup, .setupHeld, .setupClosed, .portDown, .held, .duplicate, .busyWindow, .queueFull,
        .notLeasable, .notHolder, .notHeld, .notWaiting, .ceiling, .linkDown] : List Result).zipIdx 1 →
      s.pageRead m .resultCode = BitVec.ofNat 32 n) ∧
    ((s.unit m).view = none → s.pageRead m .eventPort0 = 0 ∧ s.pageRead m .eventPort1 = 0 ∧ s.pageRead m .eventPort2 = 0 ∧
      s.pageRead m .eventPort3 = 0) ∧
    (∀ v, (s.unit m).view = some v →
      let shows := fun kind window target master value tag : Nat =>
        s.pageRead m .eventPort0 = BitVec.ofNat 32 (kind + 2 ^ 8 * v.left + 2 ^ 16 * v.notice.seq.toNat) ∧
        s.pageRead m .eventPort1 = BitVec.ofNat 32 (window + 2 ^ 8 * target + 2 ^ 16 * master) ∧
        s.pageRead m .eventPort2 = BitVec.ofNat 32 value ∧ s.pageRead m .eventPort3 = BitVec.ofNat 32 tag
      match v.notice.body with
      | .granted w n => shows 1 w.val 0 0 n 0
      | .expired w => shows 2 w.val 0 0 0 0
      | .revoked w k => shows 3 w.val 0 k.val 0 0
      | .leaseWarning w n => shows 4 w.val 0 0 n 0
      | .claimLapsed w reason => shows 5 w.val 0 0 (if reason = .waitLimit then 1 else 2) 0
      | .contention w k => shows 6 w.val 0 k.val 0 0
      | .windowRetired w => shows 7 w.val 0 0 0 0
      | .fenceDone t st => shows 8 0 t.val 0 st.code 0
      | .fenceCancelled t => shows 9 0 t.val 0 0 0
      | .targetFaulted t cause => shows 10 0 t.val 0 (if cause = .threshold then 1 else 2) 0
      | .targetRestored t st => shows 11 0 t.val 0 st.code 0
      | .mirrorSplit w t tag cause => shows 12 w.val t.val 0 cause.code tag.val
      | .setupHanded k => shows 13 0 0 k.val 0 0
      | .protocolFault cause tag => shows 14 0 0 0 (if cause = .goWhileBusy then 1 else 2) tag.val
      | .overflow n => shows 15 0 0 0 n 0) ∧
    [TargetState.online, .fencing, .fenced, .faulted].map TargetState.code = [0, 1, 2, 3] ∧
    [SplitCause.targetError, .timeout, .targetLost, .skipped].map SplitCause.code = [1, 2, 3, 4] ∧
    s.pageRead m .noticeMask = (s.unit m).mask.setWidth 32 ∧
    (∀ field : DefaultRoute → Nat, field .deny = 0 → (∀ t, field (.target t) = 1 + 2 ^ 4 * t.val) →
      s.pageRead m .defaultRoutes = BitVec.ofNat 32 (field s.defaultRead + 2 ^ 8 * field s.defaultWrite)) ∧
    s.pageRead m .tickSettings = BitVec.ofNat 32 (s.time.scale + 2 ^ 16 * s.time.divider) ∧
    (∀ field : MasterId → Nat, (∀ k, field k = if (s.port k).link = .up then 1 else 0) →
      s.pageRead m .masterLinks = BitVec.ofNat 32 (field 0 + 2 ^ 2 * field 1 + 2 ^ 4 * field 2 + 2 ^ 6 * field 3))

/-- A read of event port word 0 (R143, R144): the oldest notice, real or OVERFLOW, leaves the queue for the latched view with the
number left behind it, the line is set afresh, and the view's first word is returned; from an empty queue the view becomes NONE,
the word is 0 and queue and line stand. -/
def Obligations.EventPortReadPopsTheOldest : Prop :=
  ∀ (s : State) (m : MasterId) (r : Request) (c : Instr), s.decides m r → r.kind = .read → r.length = 4 →
    r.address = 0xFFFFF100#32 → (c = .eventPortRead m ∨ c = .steeringDecision m) →
    let u := s.unit m
    let popped := fun (q : EventQueue) (n : Notice) =>
      (s.setUnit m { u with
        queue := q, view := some ⟨n, q.toList.length⟩, line := lineOf q u.mask }).returned m
          ⟨r.tag, .ok, none, wordBytes (viewWord0 (some ⟨n, q.toList.length⟩))⟩
    (∀ n rest, u.queue.real = n :: rest → exec c s = .next (popped ⟨rest, u.queue.overflow⟩ n)) ∧
    (∀ o, u.queue.real = [] → u.queue.overflow = some o → exec c s = .next (popped ⟨[], none⟩ ⟨o.seq, .overflow o.count⟩)) ∧
    (u.queue.real = [] → u.queue.overflow = none →
      exec c s = .next ((s.setUnit m { u with view := none }).returned m ⟨r.tag, .ok, none, wordBytes 0⟩))

/-- The control page writes that have an effect (R130, R144, R164, R165). A mask write replaces bits 1 to 15 of the mask and sets
the line afresh. A slot that is IDLE or DONE takes an argument word, and with GO a command code, becoming PENDING with no result;
while it is PENDING or EXECUTING an argument word is ignored and a GO is answered with PROTOCOL_FAULT; without GO a command word
is ignored. Every one completes OK. That the page's words lie little end first on the link is the model's choice (log 9). -/
def Obligations.ControlPageWritesTakeEffect : Prop :=
  ∀ (s : State) (m : MasterId) (r : Request) (v : Word), s.decides m r → r.kind = .write → r.length = 4 →
    r.data = wordBytes v →
    let sl := s.slot m
    (∀ c : Instr, (c = .noticeMaskWrite m ∨ c = .steeringDecision m) → r.address = 0xFFFFF110#32 →
      exec c s = .next ((s.setUnit m { s.unit m with
        mask := v.setWidth 16 &&& 0xFFFE#16
        line := lineOf (s.unit m).queue (v.setWidth 16 &&& 0xFFFE#16) }).returned m ⟨r.tag, .ok, none, []⟩)) ∧
    (∀ c : Instr, (c = .controlPageWrite m ∨ c = .steeringDecision m) →
      (r.address = 0xFFFFF000#32 → v.getLsbD 31 = true → (sl.state = .idle ∨ sl.state = .done) →
        exec c s = .next ((s.setSlot m
          { sl with code := v.setWidth 8, state := .pending, result := none, words := Table.fill 8 0 }).returned m
            ⟨r.tag, .ok, none, []⟩)) ∧
      (r.address = 0xFFFFF000#32 → v.getLsbD 31 = true → (sl.state = .pending ∨ sl.state = .executing) →
        exec c s = .next ((s.post m (.protocolFault .goWhileBusy r.tag)).returned m ⟨r.tag, .ok, none, []⟩)) ∧
      (r.address = 0xFFFFF000#32 → v.getLsbD 31 = false →
        exec c s = .next (s.returned m ⟨r.tag, .ok, none, []⟩)) ∧
      (∀ i : Fin 10, r.address = 0xFFFFF004#32 + BitVec.ofNat 32 (4 * i.val) →
        ((sl.state = .idle ∨ sl.state = .done) →
          exec c s = .next ((s.setSlot m { sl with args := sl.args.put i v }).returned m ⟨r.tag, .ok, none, []⟩)) ∧
        ((sl.state = .pending ∨ sl.state = .executing) →
          exec c s = .next (s.returned m ⟨r.tag, .ok, none, []⟩))))

/-! ### Identifiers and forwarding -/

/-- A grant to a single-target head (R81, R84, R85). The master granted is the first in turn after last served that waits at the
target with an eligible head, while the target is ONLINE with its link UP and an xid is free; with none such, nothing happens. The
head of the free list becomes the record of the transaction at age 0, the frame leaves, the master leaves the waiting set and is
last served, and the request leaves its queue. -/
def Obligations.XidGrantForwardsTheNextHead : Prop :=
  ∀ (s : State) (t : TargetId), s.rstN = .released →
    ((s.target t).state ≠ .online ∨ (s.target t).link ≠ .up ∨ (s.target t).freeList = [] ∨
      (∀ m, s.eligible t m = false) →
      exec (.xidGrant t) s = .next s ∧ exec (.mirrorXidGrant t) s = .next s) ∧
    (∀ (m : MasterId) (r : Request) (rest : List Request) (g : Nat) (w : Option WindowId) (address : Word) (x : Xid)
      (free : List Xid),
      (s.target t).state = .online → (s.target t).link = .up → (s.target t).freeList = x :: free →
      (s.port m).inbound = r :: rest → r.binding = .bound ⟨g, w, .single t address⟩ →
      (s.target t).waiting.get m = true →
      (∀ k, s.eligible t k = true →
        (m - (s.target t).lastServed - 1).val ≤ (k - (s.target t).lastServed - 1).val) →
      exec (.mirrorXidGrant t) s = .next s ∧
      exec (.xidGrant t) s = .next
        (((s.setTarget t { s.target t with
          freeList := free
          records := (s.target t).records.put x
            (some ⟨m, r.tag, g, w, r.kind, address, r.length, 0, none, false⟩)
          waiting := (s.target t).waiting.erase m
          lastServed := m }).sendToTarget t ⟨x, r.kind, address, r.length, r.data⟩).setPort m
            { s.port m with inbound := rest }))

/-- Who is granted next at a target, and the grant of a mirror write (R84, R100, R101). A master that waits there is eligible with a
bound head whose one sent target this is, and with a two-leg mirror write only while its other target too is ONLINE with its link
UP and an xid free; the first eligible master in turn after last served is next while the target itself is so, and the others are
passed over. A two-leg write whose targets are both ONLINE with their links UP and an xid
free is granted both xids in one happening at the target whose arbiter has come to it: a record and a frame at each, the master
out of both waiting sets and last served at both, one mirror record at the primary with both legs PENDING, and the request out of
its queue. A skipped-leg write is granted at its one sent target, its mirror record there naming the skipped one. -/
def Obligations.MirrorGrantForwardsItsLegs : Prop :=
  (∀ (s : State) (t : TargetId),
    let ready := fun k : TargetId => (s.target k).state = .online ∧ (s.target k).link = .up ∧ (s.target k).freeList ≠ []
    (∀ m, s.eligible t m = true ↔ (s.target t).waiting.get m = true ∧
      ∃ r rest b, (s.port m).inbound = r :: rest ∧ r.binding = .bound b ∧
        ((∃ a, b.route = .single t a) ∨ (∃ t1 a1 a2, b.route = .mirror t1 a1 t a2 (some .one)) ∨
          (∃ a1 t2 a2, b.route = .mirror t a1 t2 a2 (some .two)) ∨
          (∃ a1 t2 a2, b.route = .mirror t a1 t2 a2 none ∧ ready t2) ∨
          (∃ t1 a1 a2, t1 ≠ t ∧ b.route = .mirror t1 a1 t a2 none ∧ ready t1))) ∧
    (∀ m, ready t → s.eligible t m = true →
      (∀ k, s.eligible t k = true →
        (m - (s.target t).lastServed - 1).val ≤ (k - (s.target t).lastServed - 1).val) → s.nextGrant t = some m) ∧
    (¬ready t ∨ (∀ m, s.eligible t m = false) → s.nextGrant t = none)) ∧
  ∀ (s : State) (m : MasterId) (r : Request) (rest : List Request) (g : Nat) (w : WindowId) (t1 t2 : TargetId)
    (a1 a2 : Word), s.rstN = .released → t1 ≠ t2 → (s.port m).inbound = r :: rest →
    (∀ (t : TargetId) (x1 x2 : Xid) (free1 free2 : List Xid),
      r.binding = .bound ⟨g, some w, .mirror t1 a1 t2 a2 none⟩ → (t = t1 ∨ t = t2) → s.nextGrant t = some m →
      (s.target t1).freeList = x1 :: free1 → (s.target t2).freeList = x2 :: free2 →
      exec (.xidGrant t) s = .next s ∧
      exec (.mirrorXidGrant t) s = .next
        (((((s.setTarget t1 { s.target t1 with
          freeList := free1
          records := (s.target t1).records.put x1
            (some ⟨m, r.tag, g, some w, r.kind, a1, r.length, 0, some ⟨t1, .one⟩, false⟩)
          waiting := (s.target t1).waiting.erase m
          lastServed := m
          mirrors := (s.target t1).mirrors ++
            [⟨m, r.tag, g, w, none, ⟨t1, some x1, .pending⟩, ⟨t2, some x2, .pending⟩⟩] }).setTarget t2 { s.target t2 with
              freeList := free2
              records := (s.target t2).records.put x2
                (some ⟨m, r.tag, g, some w, r.kind, a2, r.length, 0, some ⟨t1, .two⟩, false⟩)
              waiting := (s.target t2).waiting.erase m
              lastServed := m }).sendToTarget t1 ⟨x1, r.kind, a1, r.length, r.data⟩).sendToTarget t2
                ⟨x2, r.kind, a2, r.length, r.data⟩).setPort m { s.port m with inbound := rest })) ∧
    (∀ (k : LegNo) (t skipped : TargetId) (address : Word) (x : Xid) (free : List Xid) (leg1 leg2 : MirrorLeg),
      r.binding = .bound ⟨g, some w, .mirror t1 a1 t2 a2 (some k)⟩ → s.nextGrant t = some m →
      (s.target t).freeList = x :: free →
      ((k = .one ∧ t = t2 ∧ skipped = t1 ∧ address = a2 ∧
          leg1 = ⟨t1, none, .skipped⟩ ∧ leg2 = ⟨t2, some x, .pending⟩) ∨
        (k = .two ∧ t = t1 ∧ skipped = t2 ∧ address = a1 ∧
          leg1 = ⟨t1, some x, .pending⟩ ∧ leg2 = ⟨t2, none, .skipped⟩)) →
      exec (.xidGrant t) s = .next
        (((s.setTarget t { s.target t with
          freeList := free
          records := (s.target t).records.put x
            (some ⟨m, r.tag, g, some w, r.kind, address, r.length, 0,
              some ⟨t, if k = .one then .two else .one⟩, false⟩)
          waiting := (s.target t).waiting.erase m
          lastServed := m
          mirrors := (s.target t).mirrors ++ [⟨m, r.tag, g, w, some skipped, leg1, leg2⟩] }).sendToTarget t
            ⟨x, r.kind, address, r.length, r.data⟩).setPort m { s.port m with inbound := rest }))

/-- A target's completion frame (R87, R88, R92, R93, R95, R104, R113). On a link that is not UP none arrives. An xid without a
record, or a frame that does not fit its record, is a stray: only the stray count rises, up to 255. A frame that fits ends the
transaction, OK setting the consecutive count to 0, and the last one of a FENCING target makes it FENCED in the same happening,
with FENCE_DONE to each requester; the fresh decisions that a fall calls for come last (R17, log 6). The end of a transaction,
whatever ends it: the record is removed and its xid joins the tail of the free list; a leg's end goes to the mirror bookkeeping
(AMirrorWriteEndsWithItsLastLeg); any other's gives a current generation its completion and its tag back while an orphan's sends
nothing, and then its window's count falls (the order, log 11). -/
def Obligations.ACompletionEndsItsTransaction : Prop :=
  (∀ (s : State) (t : TargetId) (x : Xid) (o : EndOutcome) (data : List Byte),
    ((s.target t).record x = none → s.endTransaction t x o data = s) ∧
    (∀ r, (s.target t).record x = some r →
      let freed := s.setTarget t { s.target t with
        records := (s.target t).records.put x none, freeList := (s.target t).freeList ++ [x] }
      (∀ ref, r.leg = some ref → s.endTransaction t x o data = freed.legEnds ref t x o) ∧
      (r.leg = none → s.endTransaction t x o data =
        (if r.generation = (s.port r.master).generation then freed.complete r.master ⟨r.tag, o.status, none, data⟩
          else freed).bindingEnds r.window))) ∧
  ∀ (s : State) (t : TargetId) (f : AnswerFrame), s.rstN = .released →
    let p := s.target t
    let stray := s.setTarget t { p with strays := min (p.strays + 1) 255 }
    (p.link ≠ .up → exec (.targetCompletion t f) s = .next s) ∧
    (p.link = .up → p.record f.xid = none → exec (.targetCompletion t f) s = .next stray) ∧
    (∀ r, p.link = .up → p.record f.xid = some r →
      let fits := (f.status = .ok ∧ r.kind = .read ∧ f.data.length = r.length) ∨
        (f.data = [] ∧ (f.status = .error ∨ r.kind = .write))
      let noted := if f.status = .ok then s.setTarget t { p with consecutive := 0 } else s
      let ended := noted.endTransaction t f.xid (if f.status = .ok then .ok else .targetError) f.data
      (¬fits → exec (.targetCompletion t f) s = .next stray) ∧
      (fits → (p.state ≠ .fencing ∨ 2 ≤ p.outstanding) →
        exec (.targetCompletion t f) s = .next (ended.redecideAfterFalls s)) ∧
      (fits → p.state = .fencing → p.outstanding = 1 →
        exec (.targetCompletion t f) s = .next
          (((ended.postEach p.requesters.members (.fenceDone t .fenced)).setTarget t
            { ended.target t with state := .fenced, requesters := MasterSet.empty }).redecideAfterFalls s)))

/-- The end of a mirror write (R104 to R107). The first leg of two to end is only recorded. With the last sent leg the mirror
record is removed, the window's count falls once, and, unless the write is an orphan, its master gets one completion: OK for two
legs OK, DEGRADED for one, with MIRROR_SPLIT naming the failed or skipped target and the cause, and for none the worst of their
outcomes, TIMEOUT before TARGET_LOST before TARGET_ERROR, with no notice. The completion and the notice come before the fall (the
model's choice, log 11). -/
def Obligations.AMirrorWriteEndsWithItsLastLeg : Prop :=
  ∀ (s : State) (holder t : TargetId) (x : Xid) (n : LegNo) (o : EndOutcome) (r : MirrorRecord)
    (before after : List MirrorRecord) (other : MirrorLeg),
    (s.target holder).mirrors = before ++ r :: after → (∀ q ∈ before ++ after, q.names n t x = false) →
    r.names n t x = true → (n = .one → other = r.leg2) → (n = .two → other = r.leg1) →
    let removed := s.setTarget holder { s.target holder with mirrors := before ++ after }
    let ends := fun (status : CompletionStatus) (split : Option (TargetId × SplitCause)) =>
      (if r.generation = (s.port r.master).generation then
        match split with
        | none => removed.complete r.master ⟨r.tag, status, none, []⟩
        | some (g, cause) =>
          (removed.complete r.master ⟨r.tag, status, none, []⟩).post r.master (.mirrorSplit r.window g r.tag cause)
      else removed).countFalls r.window
    (other.outcome = .pending → s.legEnds ⟨holder, n⟩ t x o = s.setTarget holder { s.target holder with
      mirrors := before ++ r.record n o :: after }) ∧
    (other.outcome = .ended .ok → o = .ok → s.legEnds ⟨holder, n⟩ t x o = ends .ok none) ∧
    (∀ cause, other.outcome = .ended .ok → o.splitCause = some cause →
      s.legEnds ⟨holder, n⟩ t x o = ends .degraded (some (t, cause))) ∧
    (∀ e cause, other.outcome = .ended e → e.splitCause = some cause → o = .ok →
      s.legEnds ⟨holder, n⟩ t x o = ends .degraded (some (other.target, cause))) ∧
    (∀ e, other.outcome = .ended e → e ≠ .ok → o ≠ .ok →
      (e = .timeout ∨ o = .timeout → s.legEnds ⟨holder, n⟩ t x o = ends .timeout none) ∧
      (e ≠ .timeout → o ≠ .timeout → (e = .targetLost ∨ o = .targetLost) →
        s.legEnds ⟨holder, n⟩ t x o = ends .targetLost none) ∧
      (e = .targetError → o = .targetError → s.legEnds ⟨holder, n⟩ t x o = ends .targetError none)) ∧
    (other.outcome = .skipped →
      (o = .ok → s.legEnds ⟨holder, n⟩ t x o = ends .degraded (some (other.target, .skipped))) ∧
      (o ≠ .ok → s.legEnds ⟨holder, n⟩ t x o = ends o.status none))

/-- A target link down, in its order (R94, R112, R117). The link is DOWN; every transaction outstanding ends TARGET_LOST in rising
xid order, with its completion or its leg's end and the fall of its window's count (`endTransaction`, which
ACompletionEndsItsTransaction says in full); the target is FAULTED and its waiting heads are re-examined; every UP master is told
TARGET_FAULTED, LINK_DOWN; and the requesters of a fence that was under way are told FENCE_DONE with value FAULTED and are
forgotten. The fresh decisions that the falls call for come last (R17, log 6). So every record is gone and every xid in use has
joined the free list in rising order, nobody waits, the target's counts, settings and last served stand, and so does everything at
the part that these do not reach. A link that is not UP stays where it is (R80). -/
def Obligations.TargetLinkDownLosesEverything : Prop :=
  ∀ (s : State) (t : TargetId), s.rstN = .released →
    ((s.target t).link ≠ .up → exec (.targetLinkDown t) s = .next s) ∧
    ((s.target t).link = .up →
      let down := s.setTarget t { s.target t with link := .down }
      let lost := allXids.foldl (fun u x => u.endTransaction t x .targetLost []) down
      let examined := (lost.setTarget t { lost.target t with state := .faulted }).reexamine t
      let u := examined.postEach (allMasters.filter fun m => decide ((s.port m).link = .up)) (.targetFaulted t .linkDown)
      ((s.target t).state ≠ .fencing → exec (.targetLinkDown t) s = .next (u.redecideAfterFalls s)) ∧
      ((s.target t).state = .fencing →
        exec (.targetLinkDown t) s = .next
          (((u.postEach (s.target t).requesters.members (.fenceDone t .faulted)).setTarget t
            { u.target t with requesters := MasterSet.empty }).redecideAfterFalls s)) ∧
      (u.target t).link = .down ∧ (u.target t).state = .faulted ∧ (∀ x, (u.target t).record x = none) ∧
      (u.target t).freeList =
        (s.target t).freeList ++ (allXids.filter fun x => ((s.target t).record x).isSome) ∧
      (∀ m, (u.target t).waiting.get m = false) ∧ (u.target t).requesters = (s.target t).requesters ∧
      (u.target t).consecutive = (s.target t).consecutive ∧ (u.target t).strays = (s.target t).strays ∧
      (u.target t).timeout = (s.target t).timeout ∧ (u.target t).threshold = (s.target t).threshold ∧
      (u.target t).lastServed = (s.target t).lastServed ∧
      (∀ k, k ≠ t → (u.target k) = { s.target k with mirrors := (u.target k).mirrors }) ∧
      u.leases = s.leases ∧ u.claims = s.claims ∧ u.engine = s.engine ∧ u.time = s.time ∧ u.toTarget = s.toTarget ∧
      u.defaultRead = s.defaultRead ∧ u.defaultWrite = s.defaultWrite ∧ u.rstN = s.rstN ∧ u.pending = s.pending ∧
      (∀ m, (u.port m).link = (s.port m).link ∧ (u.port m).cleanup = (s.port m).cleanup ∧
        (u.port m).generation = (s.port m).generation))

/-- A target's link that trains is UP and its target's state is what it was (R80). A master's link that trains makes its port UP
while its cleanup is CLEAR, and leaves the port's state to the cleanup's end while one is under way (R149). Nothing else
changes. -/
def Obligations.LinksTrain : Prop :=
  ∀ s : State, s.rstN = .released →
    (∀ t, exec (.targetLinkTrains t) s = .next (s.setTarget t { s.target t with link := .up })) ∧
    (∀ m, (s.port m).cleanup = .clear →
      exec (.masterLinkTrains m) s = .next (s.setPort m { s.port m with link := .up, trained := true })) ∧
    (∀ m, (s.port m).cleanup ≠ .clear →
      exec (.masterLinkTrains m) s = .next (s.setPort m { s.port m with trained := true }))

/-! ### Master ports -/

/-- A request frame (R150, R151, R153, R154). Flow control holds it unless the port is UP, its cleanup CLEAR and a place free. One
whose tag is OUTSTANDING is discarded with PROTOCOL_FAULT, TAG_CLASH, and nothing else changes; one that keeps the request rules
takes its tag and joins the tail of the queue, unbound. -/
def Obligations.ARequestFrameIsTaken : Prop :=
  ∀ (s : State) (m : MasterId) (f : RequestFrame), s.rstN = .released →
    ((s.port m).link = .down ∨ (s.port m).cleanup ≠ .clear ∨ 8 ≤ (s.port m).inbound.length →
      exec (.requestFrame m f) s = .next s) ∧
    ((s.port m).link = .up → (s.port m).cleanup = .clear → (s.port m).inbound.length < 8 →
      ((s.port m).tags.get f.tag = .outstanding →
        exec (.requestFrame m f) s = .next (s.post m (.protocolFault .tagClash f.tag))) ∧
      ((s.port m).tags.get f.tag = .free → f.wellFormed = true →
        exec (.requestFrame m f) s = .next (s.setPort m { s.port m with
          tags := (s.port m).tags.put f.tag .outstanding
          inbound := (s.port m).inbound ++ [⟨f.tag, f.kind, f.address, f.length, f.data, .unbound false⟩] })))

/-- A malformed request (R152): the rules it breaks, and what the port does with one whose tag is free: a completion REFUSED,
MALFORMED, with its tag, which is FREE again, and nothing else: no place in the queue and no notice. -/
def Obligations.AMalformedRequestIsRefused : Prop :=
  ∀ f : RequestFrame,
    (f.wellFormed = false ↔
      f.length = 0 ∨ 64 < f.length ∨ f.address.toNat / 64 ≠ (f.address.toNat + f.length - 1) / 64 ∨
      (f.kind = .write ∧ f.data.length ≠ f.length) ∨ (f.kind = .read ∧ f.data ≠ [])) ∧
    (∀ (s : State) (m : MasterId), s.rstN = .released → (s.port m).link = .up → (s.port m).cleanup = .clear →
      (s.port m).inbound.length < 8 → (s.port m).tags.get f.tag = .free → f.wellFormed = false →
      exec (.requestFrame m f) s = .next { s with
        toMaster := s.toMaster.put m (s.toMaster.get m ++ [⟨f.tag, .refused, some .malformed, []⟩]) })

/-- The start of a port cleanup (R41, R149, R150, R157, R159), by a port reset frame, which leaves the port UP, or a link drop,
which leaves it DOWN: the generation rises by one, the queue is emptied with no completion, every tag is FREE and all eight
blocks still have their part to take; a head bound to a window has that window's count fall, after which the heads of other masters held at the count limit are
decided afresh (R17, log 6), and nothing else changes. A port
reset frame does nothing at a port that is DOWN or under cleanup, and a link drop there only leaves the link DOWN and
untrained (log 17). -/
def Obligations.ACleanupStarts : Prop :=
  ∀ (s : State) (m : MasterId) (c : Instr) (drops : Bool), s.rstN = .released →
    (drops = false ∧ c = .portReset m ∨ drops = true ∧ c = .linkDrop m) →
    let p := s.port m
    let q : MasterPort :=
      { link := if drops then .down else p.link, trained := if drops then false else p.trained, inbound := []
        cleanup := .underWay [.engine, .notices, .leases, .windows, .target 0, .target 1, .target 2, .target 3]
        tags := Table.fill 16 .free, generation := p.generation + 1 }
    (p.link = .up → p.cleanup = .clear → (∀ r ∈ p.inbound, r.boundWindow = none) →
      exec c s = .next (s.setPort m q)) ∧
    (∀ r rest w, p.link = .up → p.cleanup = .clear → p.inbound = r :: rest → r.boundWindow = some w →
      (∀ k ∈ rest, k.boundWindow = none) →
      exec c s = .next ((((s.setPort m { p with
        link := q.link, trained := q.trained, inbound := [], generation := q.generation }).countFalls w).setPort m
          q).redecideAfterFalls s)) ∧
    (p.link = .down ∨ p.cleanup ≠ .clear →
      exec c s = .next (if drops then s.setPort m { p with link := .down, trained := false } else s))

/-- A block takes its part of a cleanup once it has taken any command of the master delivered to it, and until then does nothing
(R135, R158); the commands are delivered as R128 says, RETIRE_WINDOW and QUERY_WINDOW to the window table and the lease manager
together (a target command whose number is above 3 to no target port, log 25). The engine idles the slot, marks the command under way for discarding and opens a right the master
held (R126, R135). The notice unit empties the queue, view, mask and numbering (R145). The window table forgets the retiring
master (R20). A target port takes the master out of its waiting and requester sets (R98, R120). The lease manager
removes the master's claims, then ends its leases in rising window index without a notice to it, each window going to its oldest
claim with GRANTED, and then takes the master out of every reported set (R59, R74): it leaves the master no claim, lease or mark,
and every other claim that is not granted stands. Each
leaves the cleanup's set; with the last one the cleanup is CLEAR and the port is UP if its link is trained (R149). -/
def Obligations.EveryBlockTakesItsPart : Prop :=
  ∀ (s : State) (m : MasterId) (b : CleanupBlock) (left : List CleanupBlock), s.rstN = .released →
    (s.port m).cleanup = .underWay left → b ∈ left →
    (∀ (c : Command) (a : Args), b ∈ c.owners a ↔
      (b = .windows ∧ c ∈ ([.defineWindow, .setRoute, .setAccess, .enableWindow, .disableWindow, .retireWindow, .setDefault,
        .queryWindow] : List Command)) ∨
      (b = .leases ∧ c ∈ ([.claim, .renew, .release, .withdraw, .revoke, .retireWindow, .queryWindow] : List Command)) ∨
      ∃ t : TargetId, b = .target t ∧ argNat a 0 = t.val ∧
        c ∈ ([.setTarget, .queryTarget, .fenceTarget, .unfenceTarget] : List Command)) ∧
    (∀ u, s.engine.underWay = some u → u.master = m → b ∈ u.command.owners u.args →
      (b = .engine → exec (.cleanupEnginePart m) s = .next s) ∧ (b = .notices → exec (.cleanupNoticePart m) s = .next s) ∧
      (b = .leases → exec (.cleanupLeasePart m) s = .next s) ∧ (b = .windows → exec (.cleanupWindowPart m) s = .next s) ∧
      (∀ t, b = .target t → exec (.cleanupTargetPart m t) s = .next s)) ∧
    ((∀ u, s.engine.underWay = some u → u.master = m → b ∉ u.command.owners u.args) →
    let q : MasterPort :=
      if left.erase b = [] then
        { s.port m with cleanup := .clear, link := if (s.port m).trained then .up else (s.port m).link }
      else { s.port m with cleanup := .underWay (left.erase b) }
    (b = .engine → exec (.cleanupEnginePart m) s = .next
      (State.setPort { s with engine :=
        { setup := if s.engine.setup = .held m then .open else s.engine.setup
          slots := s.engine.slots.put m Slot.idleSlot
          lastServed := s.engine.lastServed
          underWay := s.engine.underWay.map fun u =>
            { u with discard := u.discard || decide (u.master = m) } } } m q)) ∧
    (b = .notices → exec (.cleanupNoticePart m) s =
      .next ((s.setUnit m ⟨⟨[], none⟩, 0, none, 0, false⟩).setPort m q)) ∧
    (b = .windows → exec (.cleanupWindowPart m) s = .next
      (State.setPort { s with windows := s.windows.each fun r =>
        if r.state = .retiring ∧ r.retiringMaster = some m then { r with retiringMaster := none } else r } m q)) ∧
    (∀ t, b = .target t → exec (.cleanupTargetPart m t) s = .next
      ((s.setTarget t { s.target t with
        waiting := (s.target t).waiting.erase m
        requesters := (s.target t).requesters.erase m }).setPort m q)) ∧
    (b = .leases →
      let handed := allWindows.foldl (fun (u : State) w =>
        if u.holder w = some m then
          match u.queueOf w with
          | [] => u.setLease w none
          | k :: _ =>
            ((u.setClaims (u.claims.eraseP fun d => decide (d.window = w))).setLease w
              (some ⟨k.claimant, k.kind, k.duration, k.duration, k.warnAt, false, 0, MasterSet.empty, false⟩)).post k.claimant
                (.granted w k.duration)
        else u) (s.setClaims (s.claims.filter fun c => decide (c.claimant ≠ m)))
      let u : State :=
        { handed with leases := handed.leases.each fun l => l.map fun l => { l with reported := l.reported.erase m } }
      exec (.cleanupLeasePart m) s = .next (u.setPort m q) ∧
      u = { s with leases := u.leases, claims := u.claims, notices := u.notices } ∧
      (∀ c ∈ u.claims, c ∈ s.claims ∧ c.claimant ≠ m) ∧
      (∀ w l, u.lease w = some l → l.holder ≠ m ∧ l.reported.get m = false) ∧
      (∀ w l, s.lease w = some l → l.holder ≠ m →
        u.lease w = some { l with reported := l.reported.erase m }) ∧
      (∀ w l, s.lease w = some l → l.holder = m →
        u.lease w = ((s.queueOf w).find? fun k => decide (k.claimant ≠ m)).map fun k =>
          ⟨k.claimant, k.kind, k.duration, k.duration, k.warnAt, false, 0, MasterSet.empty, false⟩) ∧
      u.unit m = s.unit m))
/-! ### What every step keeps -/

/-- Every step keeps every window record and the time base legal (R1, R2, R3, R5, R17, R19, R42): the FREE values in FREE, a
legal geometry and legal routes in every other state, at most 64 transactions counted, a retiring master only in RETIRING, which
still counts one, and a prescale count below the tick period. -/
def Obligations.EveryStepKeepsTheWindowsLegal : Prop :=
  ∀ s t : State, s.windowsOk → step s = .next t → t.windowsOk

/-- Every step keeps the lease manager's rules (R45, R61, R63, R64): at most 24 waiting claims, no two of one master for one
window, each for a window that another master holds; a lease only on a DEFINED or ACTIVE window whose policy is not NONE, its
remaining time from 1 to its duration, its holder not in its own reported set. -/
def Obligations.EveryStepKeepsTheLeasesLegal : Prop :=
  ∀ s t : State, s.leasesOk → step s = .next t → t.leasesOk

/-- Every step keeps every xid of every target port in the free list once or in use by one record (R81), as long as no mirror
names one target twice, which every step keeps too (R3). -/
def Obligations.EveryStepKeepsTheXids : Prop :=
  ∀ s t : State, s.xidsOk → step s = .next t → t.xidsOk

/-- Every step keeps the target states legal (R78, R80, R94, R110, R112, R113, R115): only an ONLINE target is waited for, only a
FENCING one has requesters and it still drains, a FENCED one has drained, a DOWN or TRAINING link goes with nothing outstanding
and with the states the spec allows, and the counts and settings stay in range. -/
def Obligations.EveryStepKeepsTheTargetsLegal : Prop :=
  ∀ s t : State, s.targetsOk → step s = .next t → t.targetsOk

/-- A window's in-flight count equals the number of transactions bound to it that have not yet ended, counting orphans, and it is
zero in FREE (R16): every step keeps it so. -/
def Obligations.TheInFlightCountIsTheTransactionsBound : Prop :=
  ∀ s t : State, s.countsOk → step s = .next t → t.countsOk

/-- Every OUTSTANDING tag belongs to exactly one request that its port has taken and not yet completed, in its queue, outstanding
at a target or in a mirror record of the present generation, and every FREE tag to none (R148, R154, R155, R156): every step keeps
it so. -/
def Obligations.EveryTagHasItsOneRequest : Prop :=
  ∀ s t : State, s.tagsOk → step s = .next t → t.tagsOk

/-- Every step keeps every event queue legal (R139, R141, R142, R144): at most 15 real notices and one OVERFLOW behind them, the
sequence numbers without a gap up to the next one, and the interrupt line asserted exactly while the queue holds a notice whose
kind is in the mask. -/
def Obligations.EveryStepKeepsTheNoticesNumbered : Prop :=
  ∀ s t : State, s.noticesOk → step s = .next t → t.noticesOk

/-- Every step keeps the master ports legal (R83, R148 to R150, R157): at most 8 requests and none while DOWN or under cleanup,
only a head decided, the link as training and cleanup call for, and the waiting sets following the bound heads, as long as no
mirror names one target twice (R3, which every step keeps, EveryStepKeepsTheXids); and it keeps the
command slots legal (R129, R132, R133): EXECUTING exactly for the command under way, a result exactly in DONE. -/
def Obligations.EveryStepKeepsThePortsAndSlotsLegal : Prop :=
  ∀ s t : State, step s = .next t → (s.xidsOk → s.portsOk → t.portsOk) ∧ (s.engineOk → t.engineOk)

/-- Once the setup right is CLOSED it stays so until device reset, and no step changes the address map or a setting (R125): no
window changes state but a RETIRING one that drains to FREE, no window's base, size, tier, routes, sets, policy, contention
setting or ceiling changes, nor a default route, the tick scale or divider, or a target's timeout or threshold. -/
def Obligations.AClosedMapStaysAsItIs : Prop :=
  ∀ s t : State, s.closedOk → s.pending.head? ≠ some .deviceReset → step s = .next t → t.closedOk ∧ t.mapKeptFrom s

/-- The state after reset has every property that the steps keep (R21, R42, R60, R75, R78, R136, R146, R161), and no command
faults or is refused in any state, nor does a step that takes none. That State.reset is the part just released is the model's choice (log 20), and so are the effect
of a step that takes no command (log 1) and that a command whose happening cannot take place then does nothing (log 2). -/
def Obligations.ResetIsLegalAndNoCommandStops : Prop :=
  (State.reset.windowsOk ∧ State.reset.leasesOk ∧ State.reset.xidsOk ∧ State.reset.targetsOk ∧ State.reset.countsOk ∧
    State.reset.tagsOk ∧ State.reset.noticesOk ∧ State.reset.portsOk ∧ State.reset.engineOk ∧ State.reset.settled) ∧
  (∀ (c : Instr) (s : State), ∃ t : State, exec c s = .next t) ∧ ∀ s : State, ∃ t : State, step s = .next t
end

