-- ==== Sys2Proof/Laws/State.lean ====
section
/-! SUPPORT. Laws/State.lean: what each update of State does to each field and to each record that is read through an accessor,
so that no later proof unfolds a record update. -/

namespace Sys2Proof

variable {n : Nat} {α β : Type}

/-! ### Tables -/

@[simp] theorem Table.get_put (t : Table n α) (i j : Fin n) (x : α) : (t.put i x).get j = if i = j then x else t.get j := by
  simp only [Table.get, Table.put, Fin.getElem_fin, Vector.getElem_set, Fin.ext_iff]

@[simp] theorem Table.get_fill (x : α) (i : Fin n) : (Table.fill n x).get i = x := by simp [Table.get, Table.fill]

@[simp] theorem Table.get_ofFn (f : Fin n → α) (i : Fin n) : (Table.ofFn f).get i = f i := by simp [Table.get, Table.ofFn]

@[simp] theorem Table.get_each (t : Table n α) (f : α → β) (i : Fin n) : (t.each f).get i = f (t.get i) := by
  simp [Table.each]

/-- Two tables with the same records are the same table. -/
theorem Table.ext_get {t u : Table n α} (h : ∀ i, t.get i = u.get i) : t = u := by
  obtain ⟨t⟩ := t
  obtain ⟨u⟩ := u
  simp only [Table.get, Fin.getElem_fin] at h
  congr
  ext i hi
  exact h ⟨i, hi⟩

@[simp] theorem Table.put_get_self (t : Table n α) (i : Fin n) : t.put i (t.get i) = t :=
  Table.ext_get fun j => by simp only [Table.get_put]; split <;> simp_all

@[simp] theorem Table.put_put_same (t : Table n α) (i : Fin n) (x y : α) : (t.put i x).put i y = t.put i y :=
  Table.ext_get fun j => by simp only [Table.get_put]; split <;> rfl

/-! ### Sets of masters -/

@[simp] theorem MasterSet.get_empty (m : MasterId) : MasterSet.empty.get m = false := Table.get_fill _ _

@[simp] theorem MasterSet.get_insert (a : MasterSet) (m k : MasterId) : (a.insert m).get k = (decide (m = k) || a.get k) := by
  simp only [MasterSet.insert, Table.get_put]; split <;> simp_all

@[simp] theorem MasterSet.get_erase (a : MasterSet) (m k : MasterId) : (a.erase m).get k = (!decide (m = k) && a.get k) := by
  simp only [MasterSet.erase, Table.get_put]; split <;> simp_all

theorem mem_allMasters (m : MasterId) : m ∈ allMasters := by revert m; decide

theorem mem_allTargets (t : TargetId) : t ∈ allTargets := by revert t; decide

theorem mem_allWindows (w : WindowId) : w ∈ allWindows := List.mem_finRange w

theorem mem_allXids (x : Xid) : x ∈ allXids := List.mem_finRange x

@[simp] theorem MasterSet.mem_members (a : MasterSet) (m : MasterId) : m ∈ a.members ↔ a.get m = true := by
  simp [MasterSet.members, mem_allMasters]

end Sys2Proof

namespace Sys2Proof.Machine

variable (s : State)

/-! ### setWindow -/

@[simp] theorem State.setWindow_rstN (w : WindowId) (r : WindowRecord) : (s.setWindow w r).rstN = s.rstN := rfl
@[simp] theorem State.setWindow_windows (w : WindowId) (r : WindowRecord) : (s.setWindow w r).windows = s.windows.put w r := rfl
@[simp] theorem State.setWindow_defaultRead (w : WindowId) (r : WindowRecord) :
    (s.setWindow w r).defaultRead = s.defaultRead := rfl
@[simp] theorem State.setWindow_defaultWrite (w : WindowId) (r : WindowRecord) :
    (s.setWindow w r).defaultWrite = s.defaultWrite := rfl
@[simp] theorem State.setWindow_leases (w : WindowId) (r : WindowRecord) : (s.setWindow w r).leases = s.leases := rfl
@[simp] theorem State.setWindow_claims (w : WindowId) (r : WindowRecord) : (s.setWindow w r).claims = s.claims := rfl
@[simp] theorem State.setWindow_time (w : WindowId) (r : WindowRecord) : (s.setWindow w r).time = s.time := rfl
@[simp] theorem State.setWindow_targets (w : WindowId) (r : WindowRecord) : (s.setWindow w r).targets = s.targets := rfl
@[simp] theorem State.setWindow_engine (w : WindowId) (r : WindowRecord) : (s.setWindow w r).engine = s.engine := rfl
@[simp] theorem State.setWindow_notices (w : WindowId) (r : WindowRecord) : (s.setWindow w r).notices = s.notices := rfl
@[simp] theorem State.setWindow_ports (w : WindowId) (r : WindowRecord) : (s.setWindow w r).ports = s.ports := rfl
@[simp] theorem State.setWindow_toMaster (w : WindowId) (r : WindowRecord) : (s.setWindow w r).toMaster = s.toMaster := rfl
@[simp] theorem State.setWindow_toTarget (w : WindowId) (r : WindowRecord) : (s.setWindow w r).toTarget = s.toTarget := rfl
@[simp] theorem State.setWindow_pending (w : WindowId) (r : WindowRecord) : (s.setWindow w r).pending = s.pending := rfl

/-! ### setLease -/

@[simp] theorem State.setLease_rstN (w : WindowId) (l : Option Lease) : (s.setLease w l).rstN = s.rstN := rfl
@[simp] theorem State.setLease_windows (w : WindowId) (l : Option Lease) : (s.setLease w l).windows = s.windows := rfl
@[simp] theorem State.setLease_defaultRead (w : WindowId) (l : Option Lease) :
    (s.setLease w l).defaultRead = s.defaultRead := rfl
@[simp] theorem State.setLease_defaultWrite (w : WindowId) (l : Option Lease) :
    (s.setLease w l).defaultWrite = s.defaultWrite := rfl
@[simp] theorem State.setLease_leases (w : WindowId) (l : Option Lease) : (s.setLease w l).leases = s.leases.put w l := rfl
@[simp] theorem State.setLease_claims (w : WindowId) (l : Option Lease) : (s.setLease w l).claims = s.claims := rfl
@[simp] theorem State.setLease_time (w : WindowId) (l : Option Lease) : (s.setLease w l).time = s.time := rfl
@[simp] theorem State.setLease_targets (w : WindowId) (l : Option Lease) : (s.setLease w l).targets = s.targets := rfl
@[simp] theorem State.setLease_engine (w : WindowId) (l : Option Lease) : (s.setLease w l).engine = s.engine := rfl
@[simp] theorem State.setLease_notices (w : WindowId) (l : Option Lease) : (s.setLease w l).notices = s.notices := rfl
@[simp] theorem State.setLease_ports (w : WindowId) (l : Option Lease) : (s.setLease w l).ports = s.ports := rfl
@[simp] theorem State.setLease_toMaster (w : WindowId) (l : Option Lease) : (s.setLease w l).toMaster = s.toMaster := rfl
@[simp] theorem State.setLease_toTarget (w : WindowId) (l : Option Lease) : (s.setLease w l).toTarget = s.toTarget := rfl
@[simp] theorem State.setLease_pending (w : WindowId) (l : Option Lease) : (s.setLease w l).pending = s.pending := rfl

/-! ### setClaims -/

@[simp] theorem State.setClaims_rstN (l : List WaitingClaim) : (s.setClaims l).rstN = s.rstN := rfl
@[simp] theorem State.setClaims_windows (l : List WaitingClaim) : (s.setClaims l).windows = s.windows := rfl
@[simp] theorem State.setClaims_defaultRead (l : List WaitingClaim) : (s.setClaims l).defaultRead = s.defaultRead := rfl
@[simp] theorem State.setClaims_defaultWrite (l : List WaitingClaim) : (s.setClaims l).defaultWrite = s.defaultWrite := rfl
@[simp] theorem State.setClaims_leases (l : List WaitingClaim) : (s.setClaims l).leases = s.leases := rfl
@[simp] theorem State.setClaims_claims (l : List WaitingClaim) : (s.setClaims l).claims = l := rfl
@[simp] theorem State.setClaims_time (l : List WaitingClaim) : (s.setClaims l).time = s.time := rfl
@[simp] theorem State.setClaims_targets (l : List WaitingClaim) : (s.setClaims l).targets = s.targets := rfl
@[simp] theorem State.setClaims_engine (l : List WaitingClaim) : (s.setClaims l).engine = s.engine := rfl
@[simp] theorem State.setClaims_notices (l : List WaitingClaim) : (s.setClaims l).notices = s.notices := rfl
@[simp] theorem State.setClaims_ports (l : List WaitingClaim) : (s.setClaims l).ports = s.ports := rfl
@[simp] theorem State.setClaims_toMaster (l : List WaitingClaim) : (s.setClaims l).toMaster = s.toMaster := rfl
@[simp] theorem State.setClaims_toTarget (l : List WaitingClaim) : (s.setClaims l).toTarget = s.toTarget := rfl
@[simp] theorem State.setClaims_pending (l : List WaitingClaim) : (s.setClaims l).pending = s.pending := rfl

/-! ### setTarget -/

@[simp] theorem State.setTarget_rstN (t : TargetId) (p : TargetPort) : (s.setTarget t p).rstN = s.rstN := rfl
@[simp] theorem State.setTarget_windows (t : TargetId) (p : TargetPort) : (s.setTarget t p).windows = s.windows := rfl
@[simp] theorem State.setTarget_defaultRead (t : TargetId) (p : TargetPort) :
    (s.setTarget t p).defaultRead = s.defaultRead := rfl
@[simp] theorem State.setTarget_defaultWrite (t : TargetId) (p : TargetPort) :
    (s.setTarget t p).defaultWrite = s.defaultWrite := rfl
@[simp] theorem State.setTarget_leases (t : TargetId) (p : TargetPort) : (s.setTarget t p).leases = s.leases := rfl
@[simp] theorem State.setTarget_claims (t : TargetId) (p : TargetPort) : (s.setTarget t p).claims = s.claims := rfl
@[simp] theorem State.setTarget_time (t : TargetId) (p : TargetPort) : (s.setTarget t p).time = s.time := rfl
@[simp] theorem State.setTarget_targets (t : TargetId) (p : TargetPort) : (s.setTarget t p).targets = s.targets.put t p := rfl
@[simp] theorem State.setTarget_engine (t : TargetId) (p : TargetPort) : (s.setTarget t p).engine = s.engine := rfl
@[simp] theorem State.setTarget_notices (t : TargetId) (p : TargetPort) : (s.setTarget t p).notices = s.notices := rfl
@[simp] theorem State.setTarget_ports (t : TargetId) (p : TargetPort) : (s.setTarget t p).ports = s.ports := rfl
@[simp] theorem State.setTarget_toMaster (t : TargetId) (p : TargetPort) : (s.setTarget t p).toMaster = s.toMaster := rfl
@[simp] theorem State.setTarget_toTarget (t : TargetId) (p : TargetPort) : (s.setTarget t p).toTarget = s.toTarget := rfl
@[simp] theorem State.setTarget_pending (t : TargetId) (p : TargetPort) : (s.setTarget t p).pending = s.pending := rfl

/-! ### setUnit -/

@[simp] theorem State.setUnit_rstN (m : MasterId) (u : NoticeUnit) : (s.setUnit m u).rstN = s.rstN := rfl
@[simp] theorem State.setUnit_windows (m : MasterId) (u : NoticeUnit) : (s.setUnit m u).windows = s.windows := rfl
@[simp] theorem State.setUnit_defaultRead (m : MasterId) (u : NoticeUnit) : (s.setUnit m u).defaultRead = s.defaultRead := rfl
@[simp] theorem State.setUnit_defaultWrite (m : MasterId) (u : NoticeUnit) :
    (s.setUnit m u).defaultWrite = s.defaultWrite := rfl
@[simp] theorem State.setUnit_leases (m : MasterId) (u : NoticeUnit) : (s.setUnit m u).leases = s.leases := rfl
@[simp] theorem State.setUnit_claims (m : MasterId) (u : NoticeUnit) : (s.setUnit m u).claims = s.claims := rfl
@[simp] theorem State.setUnit_time (m : MasterId) (u : NoticeUnit) : (s.setUnit m u).time = s.time := rfl
@[simp] theorem State.setUnit_targets (m : MasterId) (u : NoticeUnit) : (s.setUnit m u).targets = s.targets := rfl
@[simp] theorem State.setUnit_engine (m : MasterId) (u : NoticeUnit) : (s.setUnit m u).engine = s.engine := rfl
@[simp] theorem State.setUnit_notices (m : MasterId) (u : NoticeUnit) : (s.setUnit m u).notices = s.notices.put m u := rfl
@[simp] theorem State.setUnit_ports (m : MasterId) (u : NoticeUnit) : (s.setUnit m u).ports = s.ports := rfl
@[simp] theorem State.setUnit_toMaster (m : MasterId) (u : NoticeUnit) : (s.setUnit m u).toMaster = s.toMaster := rfl
@[simp] theorem State.setUnit_toTarget (m : MasterId) (u : NoticeUnit) : (s.setUnit m u).toTarget = s.toTarget := rfl
@[simp] theorem State.setUnit_pending (m : MasterId) (u : NoticeUnit) : (s.setUnit m u).pending = s.pending := rfl

/-! ### setPort -/

@[simp] theorem State.setPort_rstN (m : MasterId) (p : MasterPort) : (s.setPort m p).rstN = s.rstN := rfl
@[simp] theorem State.setPort_windows (m : MasterId) (p : MasterPort) : (s.setPort m p).windows = s.windows := rfl
@[simp] theorem State.setPort_defaultRead (m : MasterId) (p : MasterPort) : (s.setPort m p).defaultRead = s.defaultRead := rfl
@[simp] theorem State.setPort_defaultWrite (m : MasterId) (p : MasterPort) :
    (s.setPort m p).defaultWrite = s.defaultWrite := rfl
@[simp] theorem State.setPort_leases (m : MasterId) (p : MasterPort) : (s.setPort m p).leases = s.leases := rfl
@[simp] theorem State.setPort_claims (m : MasterId) (p : MasterPort) : (s.setPort m p).claims = s.claims := rfl
@[simp] theorem State.setPort_time (m : MasterId) (p : MasterPort) : (s.setPort m p).time = s.time := rfl
@[simp] theorem State.setPort_targets (m : MasterId) (p : MasterPort) : (s.setPort m p).targets = s.targets := rfl
@[simp] theorem State.setPort_engine (m : MasterId) (p : MasterPort) : (s.setPort m p).engine = s.engine := rfl
@[simp] theorem State.setPort_notices (m : MasterId) (p : MasterPort) : (s.setPort m p).notices = s.notices := rfl
@[simp] theorem State.setPort_ports (m : MasterId) (p : MasterPort) : (s.setPort m p).ports = s.ports.put m p := rfl
@[simp] theorem State.setPort_toMaster (m : MasterId) (p : MasterPort) : (s.setPort m p).toMaster = s.toMaster := rfl
@[simp] theorem State.setPort_toTarget (m : MasterId) (p : MasterPort) : (s.setPort m p).toTarget = s.toTarget := rfl
@[simp] theorem State.setPort_pending (m : MasterId) (p : MasterPort) : (s.setPort m p).pending = s.pending := rfl

/-! ### setEngine -/

@[simp] theorem State.setEngine_rstN (e : Engine) : (s.setEngine e).rstN = s.rstN := rfl
@[simp] theorem State.setEngine_windows (e : Engine) : (s.setEngine e).windows = s.windows := rfl
@[simp] theorem State.setEngine_defaultRead (e : Engine) : (s.setEngine e).defaultRead = s.defaultRead := rfl
@[simp] theorem State.setEngine_defaultWrite (e : Engine) : (s.setEngine e).defaultWrite = s.defaultWrite := rfl
@[simp] theorem State.setEngine_leases (e : Engine) : (s.setEngine e).leases = s.leases := rfl
@[simp] theorem State.setEngine_claims (e : Engine) : (s.setEngine e).claims = s.claims := rfl
@[simp] theorem State.setEngine_time (e : Engine) : (s.setEngine e).time = s.time := rfl
@[simp] theorem State.setEngine_targets (e : Engine) : (s.setEngine e).targets = s.targets := rfl
@[simp] theorem State.setEngine_engine (e : Engine) : (s.setEngine e).engine = e := rfl
@[simp] theorem State.setEngine_notices (e : Engine) : (s.setEngine e).notices = s.notices := rfl
@[simp] theorem State.setEngine_ports (e : Engine) : (s.setEngine e).ports = s.ports := rfl
@[simp] theorem State.setEngine_toMaster (e : Engine) : (s.setEngine e).toMaster = s.toMaster := rfl
@[simp] theorem State.setEngine_toTarget (e : Engine) : (s.setEngine e).toTarget = s.toTarget := rfl
@[simp] theorem State.setEngine_pending (e : Engine) : (s.setEngine e).pending = s.pending := rfl

/-! ### setTime -/

@[simp] theorem State.setTime_rstN (b : TimeBase) : (s.setTime b).rstN = s.rstN := rfl
@[simp] theorem State.setTime_windows (b : TimeBase) : (s.setTime b).windows = s.windows := rfl
@[simp] theorem State.setTime_defaultRead (b : TimeBase) : (s.setTime b).defaultRead = s.defaultRead := rfl
@[simp] theorem State.setTime_defaultWrite (b : TimeBase) : (s.setTime b).defaultWrite = s.defaultWrite := rfl
@[simp] theorem State.setTime_leases (b : TimeBase) : (s.setTime b).leases = s.leases := rfl
@[simp] theorem State.setTime_claims (b : TimeBase) : (s.setTime b).claims = s.claims := rfl
@[simp] theorem State.setTime_time (b : TimeBase) : (s.setTime b).time = b := rfl
@[simp] theorem State.setTime_targets (b : TimeBase) : (s.setTime b).targets = s.targets := rfl
@[simp] theorem State.setTime_engine (b : TimeBase) : (s.setTime b).engine = s.engine := rfl
@[simp] theorem State.setTime_notices (b : TimeBase) : (s.setTime b).notices = s.notices := rfl
@[simp] theorem State.setTime_ports (b : TimeBase) : (s.setTime b).ports = s.ports := rfl
@[simp] theorem State.setTime_toMaster (b : TimeBase) : (s.setTime b).toMaster = s.toMaster := rfl
@[simp] theorem State.setTime_toTarget (b : TimeBase) : (s.setTime b).toTarget = s.toTarget := rfl
@[simp] theorem State.setTime_pending (b : TimeBase) : (s.setTime b).pending = s.pending := rfl

/-! ### sendToMaster -/

@[simp] theorem State.sendToMaster_rstN (m : MasterId) (f : CompletionFrame) : (s.sendToMaster m f).rstN = s.rstN := rfl
@[simp] theorem State.sendToMaster_windows (m : MasterId) (f : CompletionFrame) :
    (s.sendToMaster m f).windows = s.windows := rfl
@[simp] theorem State.sendToMaster_defaultRead (m : MasterId) (f : CompletionFrame) :
    (s.sendToMaster m f).defaultRead = s.defaultRead := rfl
@[simp] theorem State.sendToMaster_defaultWrite (m : MasterId) (f : CompletionFrame) :
    (s.sendToMaster m f).defaultWrite = s.defaultWrite := rfl
@[simp] theorem State.sendToMaster_leases (m : MasterId) (f : CompletionFrame) : (s.sendToMaster m f).leases = s.leases := rfl
@[simp] theorem State.sendToMaster_claims (m : MasterId) (f : CompletionFrame) : (s.sendToMaster m f).claims = s.claims := rfl
@[simp] theorem State.sendToMaster_time (m : MasterId) (f : CompletionFrame) : (s.sendToMaster m f).time = s.time := rfl
@[simp] theorem State.sendToMaster_targets (m : MasterId) (f : CompletionFrame) :
    (s.sendToMaster m f).targets = s.targets := rfl
@[simp] theorem State.sendToMaster_engine (m : MasterId) (f : CompletionFrame) : (s.sendToMaster m f).engine = s.engine := rfl
@[simp] theorem State.sendToMaster_notices (m : MasterId) (f : CompletionFrame) :
    (s.sendToMaster m f).notices = s.notices := rfl
@[simp] theorem State.sendToMaster_ports (m : MasterId) (f : CompletionFrame) : (s.sendToMaster m f).ports = s.ports := rfl
@[simp] theorem State.sendToMaster_toMaster (m : MasterId) (f : CompletionFrame) :
    (s.sendToMaster m f).toMaster = s.toMaster.put m (s.toMaster.get m ++ [f]) := rfl
@[simp] theorem State.sendToMaster_toTarget (m : MasterId) (f : CompletionFrame) :
    (s.sendToMaster m f).toTarget = s.toTarget := rfl
@[simp] theorem State.sendToMaster_pending (m : MasterId) (f : CompletionFrame) :
    (s.sendToMaster m f).pending = s.pending := rfl

/-! ### sendToTarget -/

@[simp] theorem State.sendToTarget_rstN (t : TargetId) (f : TargetFrame) : (s.sendToTarget t f).rstN = s.rstN := rfl
@[simp] theorem State.sendToTarget_windows (t : TargetId) (f : TargetFrame) : (s.sendToTarget t f).windows = s.windows := rfl
@[simp] theorem State.sendToTarget_defaultRead (t : TargetId) (f : TargetFrame) :
    (s.sendToTarget t f).defaultRead = s.defaultRead := rfl
@[simp] theorem State.sendToTarget_defaultWrite (t : TargetId) (f : TargetFrame) :
    (s.sendToTarget t f).defaultWrite = s.defaultWrite := rfl
@[simp] theorem State.sendToTarget_leases (t : TargetId) (f : TargetFrame) : (s.sendToTarget t f).leases = s.leases := rfl
@[simp] theorem State.sendToTarget_claims (t : TargetId) (f : TargetFrame) : (s.sendToTarget t f).claims = s.claims := rfl
@[simp] theorem State.sendToTarget_time (t : TargetId) (f : TargetFrame) : (s.sendToTarget t f).time = s.time := rfl
@[simp] theorem State.sendToTarget_targets (t : TargetId) (f : TargetFrame) : (s.sendToTarget t f).targets = s.targets := rfl
@[simp] theorem State.sendToTarget_engine (t : TargetId) (f : TargetFrame) : (s.sendToTarget t f).engine = s.engine := rfl
@[simp] theorem State.sendToTarget_notices (t : TargetId) (f : TargetFrame) : (s.sendToTarget t f).notices = s.notices := rfl
@[simp] theorem State.sendToTarget_ports (t : TargetId) (f : TargetFrame) : (s.sendToTarget t f).ports = s.ports := rfl
@[simp] theorem State.sendToTarget_toMaster (t : TargetId) (f : TargetFrame) : (s.sendToTarget t f).toMaster = s.toMaster := rfl
@[simp] theorem State.sendToTarget_toTarget (t : TargetId) (f : TargetFrame) :
    (s.sendToTarget t f).toTarget = s.toTarget.put t (s.toTarget.get t ++ [f]) := rfl
@[simp] theorem State.sendToTarget_pending (t : TargetId) (f : TargetFrame) : (s.sendToTarget t f).pending = s.pending := rfl

/-! ### Records read through an accessor -/

@[simp] theorem State.setWindow_window (w : WindowId) (r : WindowRecord) (w' : WindowId) :
    (s.setWindow w r).window w' = if w = w' then r else s.window w' := Table.get_put _ _ _ _
@[simp] theorem State.setLease_window (w : WindowId) (l : Option Lease) (w' : WindowId) :
    (s.setLease w l).window w' = s.window w' := rfl
@[simp] theorem State.setClaims_window (l : List WaitingClaim) (w' : WindowId) : (s.setClaims l).window w' = s.window w' := rfl
@[simp] theorem State.setTarget_window (t : TargetId) (p : TargetPort) (w' : WindowId) :
    (s.setTarget t p).window w' = s.window w' := rfl
@[simp] theorem State.setUnit_window (m : MasterId) (u : NoticeUnit) (w' : WindowId) :
    (s.setUnit m u).window w' = s.window w' := rfl
@[simp] theorem State.setPort_window (m : MasterId) (p : MasterPort) (w' : WindowId) :
    (s.setPort m p).window w' = s.window w' := rfl
@[simp] theorem State.setEngine_window (e : Engine) (w' : WindowId) : (s.setEngine e).window w' = s.window w' := rfl
@[simp] theorem State.setTime_window (b : TimeBase) (w' : WindowId) : (s.setTime b).window w' = s.window w' := rfl
@[simp] theorem State.sendToMaster_window (m : MasterId) (f : CompletionFrame) (w' : WindowId) :
    (s.sendToMaster m f).window w' = s.window w' := rfl
@[simp] theorem State.sendToTarget_window (t : TargetId) (f : TargetFrame) (w' : WindowId) :
    (s.sendToTarget t f).window w' = s.window w' := rfl

@[simp] theorem State.setWindow_lease (w : WindowId) (r : WindowRecord) (w' : WindowId) :
    (s.setWindow w r).lease w' = s.lease w' := rfl
@[simp] theorem State.setLease_lease (w : WindowId) (l : Option Lease) (w' : WindowId) :
    (s.setLease w l).lease w' = if w = w' then l else s.lease w' := Table.get_put _ _ _ _
@[simp] theorem State.setClaims_lease (l : List WaitingClaim) (w' : WindowId) : (s.setClaims l).lease w' = s.lease w' := rfl
@[simp] theorem State.setTarget_lease (t : TargetId) (p : TargetPort) (w' : WindowId) :
    (s.setTarget t p).lease w' = s.lease w' := rfl
@[simp] theorem State.setUnit_lease (m : MasterId) (u : NoticeUnit) (w' : WindowId) :
    (s.setUnit m u).lease w' = s.lease w' := rfl
@[simp] theorem State.setPort_lease (m : MasterId) (p : MasterPort) (w' : WindowId) :
    (s.setPort m p).lease w' = s.lease w' := rfl
@[simp] theorem State.setEngine_lease (e : Engine) (w' : WindowId) : (s.setEngine e).lease w' = s.lease w' := rfl
@[simp] theorem State.setTime_lease (b : TimeBase) (w' : WindowId) : (s.setTime b).lease w' = s.lease w' := rfl
@[simp] theorem State.sendToMaster_lease (m : MasterId) (f : CompletionFrame) (w' : WindowId) :
    (s.sendToMaster m f).lease w' = s.lease w' := rfl
@[simp] theorem State.sendToTarget_lease (t : TargetId) (f : TargetFrame) (w' : WindowId) :
    (s.sendToTarget t f).lease w' = s.lease w' := rfl

@[simp] theorem State.setWindow_target (w : WindowId) (r : WindowRecord) (t' : TargetId) :
    (s.setWindow w r).target t' = s.target t' := rfl
@[simp] theorem State.setLease_target (w : WindowId) (l : Option Lease) (t' : TargetId) :
    (s.setLease w l).target t' = s.target t' := rfl
@[simp] theorem State.setClaims_target (l : List WaitingClaim) (t' : TargetId) : (s.setClaims l).target t' = s.target t' := rfl
@[simp] theorem State.setTarget_target (t : TargetId) (p : TargetPort) (t' : TargetId) :
    (s.setTarget t p).target t' = if t = t' then p else s.target t' := Table.get_put _ _ _ _
@[simp] theorem State.setUnit_target (m : MasterId) (u : NoticeUnit) (t' : TargetId) :
    (s.setUnit m u).target t' = s.target t' := rfl
@[simp] theorem State.setPort_target (m : MasterId) (p : MasterPort) (t' : TargetId) :
    (s.setPort m p).target t' = s.target t' := rfl
@[simp] theorem State.setEngine_target (e : Engine) (t' : TargetId) : (s.setEngine e).target t' = s.target t' := rfl
@[simp] theorem State.setTime_target (b : TimeBase) (t' : TargetId) : (s.setTime b).target t' = s.target t' := rfl
@[simp] theorem State.sendToMaster_target (m : MasterId) (f : CompletionFrame) (t' : TargetId) :
    (s.sendToMaster m f).target t' = s.target t' := rfl
@[simp] theorem State.sendToTarget_target (t : TargetId) (f : TargetFrame) (t' : TargetId) :
    (s.sendToTarget t f).target t' = s.target t' := rfl

@[simp] theorem State.setWindow_unit (w : WindowId) (r : WindowRecord) (m' : MasterId) :
    (s.setWindow w r).unit m' = s.unit m' := rfl
@[simp] theorem State.setLease_unit (w : WindowId) (l : Option Lease) (m' : MasterId) :
    (s.setLease w l).unit m' = s.unit m' := rfl
@[simp] theorem State.setClaims_unit (l : List WaitingClaim) (m' : MasterId) : (s.setClaims l).unit m' = s.unit m' := rfl
@[simp] theorem State.setTarget_unit (t : TargetId) (p : TargetPort) (m' : MasterId) :
    (s.setTarget t p).unit m' = s.unit m' := rfl
@[simp] theorem State.setUnit_unit (m : MasterId) (u : NoticeUnit) (m' : MasterId) :
    (s.setUnit m u).unit m' = if m = m' then u else s.unit m' := Table.get_put _ _ _ _
@[simp] theorem State.setPort_unit (m : MasterId) (p : MasterPort) (m' : MasterId) : (s.setPort m p).unit m' = s.unit m' := rfl
@[simp] theorem State.setEngine_unit (e : Engine) (m' : MasterId) : (s.setEngine e).unit m' = s.unit m' := rfl
@[simp] theorem State.setTime_unit (b : TimeBase) (m' : MasterId) : (s.setTime b).unit m' = s.unit m' := rfl
@[simp] theorem State.sendToMaster_unit (m : MasterId) (f : CompletionFrame) (m' : MasterId) :
    (s.sendToMaster m f).unit m' = s.unit m' := rfl
@[simp] theorem State.sendToTarget_unit (t : TargetId) (f : TargetFrame) (m' : MasterId) :
    (s.sendToTarget t f).unit m' = s.unit m' := rfl

@[simp] theorem State.setWindow_port (w : WindowId) (r : WindowRecord) (m' : MasterId) :
    (s.setWindow w r).port m' = s.port m' := rfl
@[simp] theorem State.setLease_port (w : WindowId) (l : Option Lease) (m' : MasterId) :
    (s.setLease w l).port m' = s.port m' := rfl
@[simp] theorem State.setClaims_port (l : List WaitingClaim) (m' : MasterId) : (s.setClaims l).port m' = s.port m' := rfl
@[simp] theorem State.setTarget_port (t : TargetId) (p : TargetPort) (m' : MasterId) :
    (s.setTarget t p).port m' = s.port m' := rfl
@[simp] theorem State.setUnit_port (m : MasterId) (u : NoticeUnit) (m' : MasterId) : (s.setUnit m u).port m' = s.port m' := rfl
@[simp] theorem State.setPort_port (m : MasterId) (p : MasterPort) (m' : MasterId) :
    (s.setPort m p).port m' = if m = m' then p else s.port m' := Table.get_put _ _ _ _
@[simp] theorem State.setEngine_port (e : Engine) (m' : MasterId) : (s.setEngine e).port m' = s.port m' := rfl
@[simp] theorem State.setTime_port (b : TimeBase) (m' : MasterId) : (s.setTime b).port m' = s.port m' := rfl
@[simp] theorem State.sendToMaster_port (m : MasterId) (f : CompletionFrame) (m' : MasterId) :
    (s.sendToMaster m f).port m' = s.port m' := rfl
@[simp] theorem State.sendToTarget_port (t : TargetId) (f : TargetFrame) (m' : MasterId) :
    (s.sendToTarget t f).port m' = s.port m' := rfl

@[simp] theorem State.setWindow_slot (w : WindowId) (r : WindowRecord) (m' : MasterId) :
    (s.setWindow w r).slot m' = s.slot m' := rfl
@[simp] theorem State.setLease_slot (w : WindowId) (l : Option Lease) (m' : MasterId) :
    (s.setLease w l).slot m' = s.slot m' := rfl
@[simp] theorem State.setClaims_slot (l : List WaitingClaim) (m' : MasterId) : (s.setClaims l).slot m' = s.slot m' := rfl
@[simp] theorem State.setTarget_slot (t : TargetId) (p : TargetPort) (m' : MasterId) :
    (s.setTarget t p).slot m' = s.slot m' := rfl
@[simp] theorem State.setUnit_slot (m : MasterId) (u : NoticeUnit) (m' : MasterId) : (s.setUnit m u).slot m' = s.slot m' := rfl
@[simp] theorem State.setPort_slot (m : MasterId) (p : MasterPort) (m' : MasterId) : (s.setPort m p).slot m' = s.slot m' := rfl
@[simp] theorem State.setEngine_slot (e : Engine) (m' : MasterId) : (s.setEngine e).slot m' = e.slots.get m' := rfl
@[simp] theorem State.setTime_slot (b : TimeBase) (m' : MasterId) : (s.setTime b).slot m' = s.slot m' := rfl
@[simp] theorem State.sendToMaster_slot (m : MasterId) (f : CompletionFrame) (m' : MasterId) :
    (s.sendToMaster m f).slot m' = s.slot m' := rfl
@[simp] theorem State.sendToTarget_slot (t : TargetId) (f : TargetFrame) (m' : MasterId) :
    (s.sendToTarget t f).slot m' = s.slot m' := rfl

/-! ### One record written twice, or as it was -/

@[simp] theorem State.setWindow_setWindow (w : WindowId) (r r' : WindowRecord) :
    (s.setWindow w r).setWindow w r' = s.setWindow w r' := by simp [State.setWindow]
@[simp] theorem State.setLease_setLease (w : WindowId) (l l' : Option Lease) :
    (s.setLease w l).setLease w l' = s.setLease w l' := by simp [State.setLease]
@[simp] theorem State.setClaims_setClaims (l l' : List WaitingClaim) : (s.setClaims l).setClaims l' = s.setClaims l' := rfl
@[simp] theorem State.setTarget_setTarget (t : TargetId) (p p' : TargetPort) :
    (s.setTarget t p).setTarget t p' = s.setTarget t p' := by simp [State.setTarget]
@[simp] theorem State.setUnit_setUnit (m : MasterId) (u u' : NoticeUnit) :
    (s.setUnit m u).setUnit m u' = s.setUnit m u' := by simp [State.setUnit]
@[simp] theorem State.setPort_setPort (m : MasterId) (p p' : MasterPort) :
    (s.setPort m p).setPort m p' = s.setPort m p' := by simp [State.setPort]
@[simp] theorem State.setEngine_setEngine (e e' : Engine) : (s.setEngine e).setEngine e' = s.setEngine e' := rfl
@[simp] theorem State.setTime_setTime (b b' : TimeBase) : (s.setTime b).setTime b' = s.setTime b' := rfl

@[simp] theorem State.setWindow_window_self (w : WindowId) : s.setWindow w (s.window w) = s := by
  simp [State.setWindow, State.window]
@[simp] theorem State.setLease_lease_self (w : WindowId) : s.setLease w (s.lease w) = s := by
  simp [State.setLease, State.lease]
@[simp] theorem State.setClaims_claims_self : s.setClaims s.claims = s := rfl
@[simp] theorem State.setTarget_target_self (t : TargetId) : s.setTarget t (s.target t) = s := by
  simp [State.setTarget, State.target]
@[simp] theorem State.setUnit_unit_self (m : MasterId) : s.setUnit m (s.unit m) = s := by
  simp [State.setUnit, State.unit]
@[simp] theorem State.setPort_port_self (m : MasterId) : s.setPort m (s.port m) = s := by
  simp [State.setPort, State.port]

end Sys2Proof.Machine
end

