-- ==== Sys2Proof/Laws/Ops.lean ====
section
/-! SUPPORT. Laws/Ops.lean: for each shared operation over State, what it leaves unchanged: every field and every accessor it
does not touch. A frame lemma is a conjunction that simp reads as one rewriting rule for each part. -/

namespace Sys2Proof.Machine

/-- What every step of a fold leaves unchanged, the fold leaves unchanged. -/
theorem foldl_keeps {α β γ : Type} (F : α → γ) (f : α → β → α) (h : ∀ s a, F (f s a) = F s) (l : List β) (s : α) :
    F (l.foldl f s) = F s := by
  induction l generalizing s with
  | nil => rfl
  | cons a l ih => simp [ih, h]

/-- What every step of a fold keeps true, the fold keeps true. -/
theorem foldl_invariant {α β : Type} (P : α → Prop) (f : α → β → α) (h : ∀ s a, P s → P (f s a)) (l : List β) (s : α)
    (hs : P s) : P (l.foldl f s) := by
  induction l generalizing s with
  | nil => exact hs
  | cons a l ih => exact ih _ (h _ _ hs)

variable (s : State)

theorem State.queueOf_of_claims {s t : State} (h : t.claims = s.claims) (w : WindowId) : t.queueOf w = s.queueOf w := by
  simp [State.queueOf, h]

@[simp] theorem State.setWindow_derived (w : WindowId) (r : WindowRecord) :
    (∀ w₀, (s.setWindow w r).queueOf w₀ = s.queueOf w₀) ∧
    (∀ m₀, (s.setWindow w r).head m₀ = s.head m₀) ∧
    (∀ m₀, (s.setWindow w r).hears m₀ = s.hears m₀) ∧
    (∀ w₀, (s.setWindow w r).holder w₀ = s.holder w₀) :=
  ⟨fun _ => rfl, fun _ => rfl, fun _ => rfl, fun _ => rfl⟩

@[simp] theorem State.setLease_derived (w : WindowId) (l : Option Lease) :
    (∀ w₀, (s.setLease w l).queueOf w₀ = s.queueOf w₀) ∧
    (∀ m₀, (s.setLease w l).head m₀ = s.head m₀) ∧
    (∀ m₀, (s.setLease w l).hears m₀ = s.hears m₀) :=
  ⟨fun _ => rfl, fun _ => rfl, fun _ => rfl⟩

@[simp] theorem State.setClaims_derived (l : List WaitingClaim) :
    (∀ m₀, (s.setClaims l).head m₀ = s.head m₀) ∧
    (∀ m₀, (s.setClaims l).hears m₀ = s.hears m₀) ∧
    (∀ w₀, (s.setClaims l).holder w₀ = s.holder w₀) :=
  ⟨fun _ => rfl, fun _ => rfl, fun _ => rfl⟩

@[simp] theorem State.setTarget_derived (t : TargetId) (p : TargetPort) :
    (∀ w₀, (s.setTarget t p).queueOf w₀ = s.queueOf w₀) ∧
    (∀ m₀, (s.setTarget t p).head m₀ = s.head m₀) ∧
    (∀ m₀, (s.setTarget t p).hears m₀ = s.hears m₀) ∧
    (∀ w₀, (s.setTarget t p).holder w₀ = s.holder w₀) :=
  ⟨fun _ => rfl, fun _ => rfl, fun _ => rfl, fun _ => rfl⟩

@[simp] theorem State.setUnit_derived (m : MasterId) (u : NoticeUnit) :
    (∀ w₀, (s.setUnit m u).queueOf w₀ = s.queueOf w₀) ∧
    (∀ m₀, (s.setUnit m u).head m₀ = s.head m₀) ∧
    (∀ m₀, (s.setUnit m u).hears m₀ = s.hears m₀) ∧
    (∀ w₀, (s.setUnit m u).holder w₀ = s.holder w₀) :=
  ⟨fun _ => rfl, fun _ => rfl, fun _ => rfl, fun _ => rfl⟩

@[simp] theorem State.setPort_derived (m : MasterId) (p : MasterPort) :
    (∀ w₀, (s.setPort m p).queueOf w₀ = s.queueOf w₀) ∧
    (∀ w₀, (s.setPort m p).holder w₀ = s.holder w₀) :=
  ⟨fun _ => rfl, fun _ => rfl⟩

@[simp] theorem State.setEngine_derived (e : Engine) :
    (∀ w₀, (s.setEngine e).queueOf w₀ = s.queueOf w₀) ∧
    (∀ m₀, (s.setEngine e).head m₀ = s.head m₀) ∧
    (∀ m₀, (s.setEngine e).hears m₀ = s.hears m₀) ∧
    (∀ w₀, (s.setEngine e).holder w₀ = s.holder w₀) :=
  ⟨fun _ => rfl, fun _ => rfl, fun _ => rfl, fun _ => rfl⟩

@[simp] theorem State.setTime_derived (b : TimeBase) :
    (∀ w₀, (s.setTime b).queueOf w₀ = s.queueOf w₀) ∧
    (∀ m₀, (s.setTime b).head m₀ = s.head m₀) ∧
    (∀ m₀, (s.setTime b).hears m₀ = s.hears m₀) ∧
    (∀ w₀, (s.setTime b).holder w₀ = s.holder w₀) :=
  ⟨fun _ => rfl, fun _ => rfl, fun _ => rfl, fun _ => rfl⟩

@[simp] theorem State.sendToMaster_derived (m : MasterId) (f : CompletionFrame) :
    (∀ w₀, (s.sendToMaster m f).queueOf w₀ = s.queueOf w₀) ∧
    (∀ m₀, (s.sendToMaster m f).head m₀ = s.head m₀) ∧
    (∀ m₀, (s.sendToMaster m f).hears m₀ = s.hears m₀) ∧
    (∀ w₀, (s.sendToMaster m f).holder w₀ = s.holder w₀) :=
  ⟨fun _ => rfl, fun _ => rfl, fun _ => rfl, fun _ => rfl⟩

@[simp] theorem State.sendToTarget_derived (t : TargetId) (f : TargetFrame) :
    (∀ w₀, (s.sendToTarget t f).queueOf w₀ = s.queueOf w₀) ∧
    (∀ m₀, (s.sendToTarget t f).head m₀ = s.head m₀) ∧
    (∀ m₀, (s.sendToTarget t f).hears m₀ = s.hears m₀) ∧
    (∀ w₀, (s.sendToTarget t f).holder w₀ = s.holder w₀) :=
  ⟨fun _ => rfl, fun _ => rfl, fun _ => rfl, fun _ => rfl⟩

/-- What `setSlot` leaves unchanged. -/
@[simp] theorem State.setSlot_frame (m : MasterId) (sl : Slot) :
    (s.setSlot m sl).rstN = s.rstN ∧ (s.setSlot m sl).windows = s.windows ∧
    (s.setSlot m sl).defaultRead = s.defaultRead ∧ (s.setSlot m sl).defaultWrite = s.defaultWrite ∧
    (s.setSlot m sl).leases = s.leases ∧ (s.setSlot m sl).claims = s.claims ∧ (s.setSlot m sl).time = s.time ∧
    (s.setSlot m sl).targets = s.targets ∧ (s.setSlot m sl).notices = s.notices ∧ (s.setSlot m sl).ports = s.ports ∧
    (s.setSlot m sl).toMaster = s.toMaster ∧ (s.setSlot m sl).toTarget = s.toTarget ∧
    (s.setSlot m sl).pending = s.pending ∧ (∀ w₀, (s.setSlot m sl).window w₀ = s.window w₀) ∧
    (∀ w₀, (s.setSlot m sl).lease w₀ = s.lease w₀) ∧ (∀ w₀, (s.setSlot m sl).holder w₀ = s.holder w₀) ∧
    (∀ w₀, (s.setSlot m sl).queueOf w₀ = s.queueOf w₀) ∧ (∀ t₀, (s.setSlot m sl).target t₀ = s.target t₀) ∧
    (∀ m₀, (s.setSlot m sl).unit m₀ = s.unit m₀) ∧ (∀ m₀, (s.setSlot m sl).port m₀ = s.port m₀) ∧
    (∀ m₀, (s.setSlot m sl).head m₀ = s.head m₀) ∧ (∀ m₀, (s.setSlot m sl).hears m₀ = s.hears m₀) := by
  unfold State.setSlot; simp

/-- What `post` leaves unchanged. -/
@[simp] theorem State.post_frame (m : MasterId) (b : NoticeBody) :
    (s.post m b).rstN = s.rstN ∧ (s.post m b).windows = s.windows ∧ (s.post m b).defaultRead = s.defaultRead ∧
    (s.post m b).defaultWrite = s.defaultWrite ∧ (s.post m b).leases = s.leases ∧ (s.post m b).claims = s.claims ∧
    (s.post m b).time = s.time ∧ (s.post m b).targets = s.targets ∧ (s.post m b).engine = s.engine ∧
    (s.post m b).ports = s.ports ∧ (s.post m b).toMaster = s.toMaster ∧ (s.post m b).toTarget = s.toTarget ∧
    (s.post m b).pending = s.pending ∧ (∀ w₀, (s.post m b).window w₀ = s.window w₀) ∧
    (∀ w₀, (s.post m b).lease w₀ = s.lease w₀) ∧ (∀ w₀, (s.post m b).holder w₀ = s.holder w₀) ∧
    (∀ w₀, (s.post m b).queueOf w₀ = s.queueOf w₀) ∧ (∀ t₀, (s.post m b).target t₀ = s.target t₀) ∧
    (∀ m₀, (s.post m b).slot m₀ = s.slot m₀) ∧ (∀ m₀, (s.post m b).port m₀ = s.port m₀) ∧
    (∀ m₀, (s.post m b).head m₀ = s.head m₀) ∧ (∀ m₀, (s.post m b).hears m₀ = s.hears m₀) := by
  unfold State.post; (repeat' split) <;> simp

/-- Posting leaves the port states that decide who hears. -/
@[simp] theorem State.post_upMasters (m : MasterId) (b : NoticeBody) : (s.post m b).upMasters = s.upMasters := by
  simp [State.upMasters]

/-- What `postEach` leaves unchanged. -/
@[simp] theorem State.postEach_frame (ms : List MasterId) (b : NoticeBody) :
    (s.postEach ms b).rstN = s.rstN ∧ (s.postEach ms b).windows = s.windows ∧
    (s.postEach ms b).defaultRead = s.defaultRead ∧ (s.postEach ms b).defaultWrite = s.defaultWrite ∧
    (s.postEach ms b).leases = s.leases ∧ (s.postEach ms b).claims = s.claims ∧ (s.postEach ms b).time = s.time ∧
    (s.postEach ms b).targets = s.targets ∧ (s.postEach ms b).engine = s.engine ∧
    (s.postEach ms b).ports = s.ports ∧ (s.postEach ms b).toMaster = s.toMaster ∧
    (s.postEach ms b).toTarget = s.toTarget ∧ (s.postEach ms b).pending = s.pending ∧
    (∀ w₀, (s.postEach ms b).window w₀ = s.window w₀) ∧ (∀ w₀, (s.postEach ms b).lease w₀ = s.lease w₀) ∧
    (∀ w₀, (s.postEach ms b).holder w₀ = s.holder w₀) ∧ (∀ w₀, (s.postEach ms b).queueOf w₀ = s.queueOf w₀) ∧
    (∀ t₀, (s.postEach ms b).target t₀ = s.target t₀) ∧ (∀ m₀, (s.postEach ms b).slot m₀ = s.slot m₀) ∧
    (∀ m₀, (s.postEach ms b).port m₀ = s.port m₀) ∧ (∀ m₀, (s.postEach ms b).head m₀ = s.head m₀) ∧
    (∀ m₀, (s.postEach ms b).hears m₀ = s.hears m₀) := by
  unfold State.postEach
  induction ms generalizing s with
  | nil => simp
  | cons a l ih => simp only [List.foldl_cons]; simp [ih]

/-- What `complete` leaves unchanged. -/
@[simp] theorem State.complete_frame (m : MasterId) (f : CompletionFrame) :
    (s.complete m f).rstN = s.rstN ∧ (s.complete m f).windows = s.windows ∧
    (s.complete m f).defaultRead = s.defaultRead ∧ (s.complete m f).defaultWrite = s.defaultWrite ∧
    (s.complete m f).leases = s.leases ∧ (s.complete m f).claims = s.claims ∧ (s.complete m f).time = s.time ∧
    (s.complete m f).targets = s.targets ∧ (s.complete m f).engine = s.engine ∧
    (s.complete m f).notices = s.notices ∧ (s.complete m f).toTarget = s.toTarget ∧
    (s.complete m f).pending = s.pending ∧ (∀ w₀, (s.complete m f).window w₀ = s.window w₀) ∧
    (∀ w₀, (s.complete m f).lease w₀ = s.lease w₀) ∧ (∀ w₀, (s.complete m f).holder w₀ = s.holder w₀) ∧
    (∀ w₀, (s.complete m f).queueOf w₀ = s.queueOf w₀) ∧ (∀ t₀, (s.complete m f).target t₀ = s.target t₀) ∧
    (∀ m₀, (s.complete m f).slot m₀ = s.slot m₀) ∧ (∀ m₀, (s.complete m f).unit m₀ = s.unit m₀) := by
  unfold State.complete; simp

/-- What `leaveHead` leaves unchanged. -/
@[simp] theorem State.leaveHead_frame (m : MasterId) :
    (s.leaveHead m).rstN = s.rstN ∧ (s.leaveHead m).windows = s.windows ∧
    (s.leaveHead m).defaultRead = s.defaultRead ∧ (s.leaveHead m).defaultWrite = s.defaultWrite ∧
    (s.leaveHead m).leases = s.leases ∧ (s.leaveHead m).claims = s.claims ∧ (s.leaveHead m).time = s.time ∧
    (s.leaveHead m).targets = s.targets ∧ (s.leaveHead m).engine = s.engine ∧ (s.leaveHead m).notices = s.notices ∧
    (s.leaveHead m).toMaster = s.toMaster ∧ (s.leaveHead m).toTarget = s.toTarget ∧
    (s.leaveHead m).pending = s.pending ∧ (∀ w₀, (s.leaveHead m).window w₀ = s.window w₀) ∧
    (∀ w₀, (s.leaveHead m).lease w₀ = s.lease w₀) ∧ (∀ w₀, (s.leaveHead m).holder w₀ = s.holder w₀) ∧
    (∀ w₀, (s.leaveHead m).queueOf w₀ = s.queueOf w₀) ∧ (∀ t₀, (s.leaveHead m).target t₀ = s.target t₀) ∧
    (∀ m₀, (s.leaveHead m).slot m₀ = s.slot m₀) ∧ (∀ m₀, (s.leaveHead m).unit m₀ = s.unit m₀) := by
  unfold State.leaveHead; simp

/-- What `completeHead` leaves unchanged. -/
@[simp] theorem State.completeHead_frame (m : MasterId) (f : CompletionFrame) :
    (s.completeHead m f).rstN = s.rstN ∧ (s.completeHead m f).windows = s.windows ∧
    (s.completeHead m f).defaultRead = s.defaultRead ∧ (s.completeHead m f).defaultWrite = s.defaultWrite ∧
    (s.completeHead m f).leases = s.leases ∧ (s.completeHead m f).claims = s.claims ∧
    (s.completeHead m f).time = s.time ∧ (s.completeHead m f).targets = s.targets ∧
    (s.completeHead m f).engine = s.engine ∧ (s.completeHead m f).notices = s.notices ∧
    (s.completeHead m f).toTarget = s.toTarget ∧ (s.completeHead m f).pending = s.pending ∧
    (∀ w₀, (s.completeHead m f).window w₀ = s.window w₀) ∧ (∀ w₀, (s.completeHead m f).lease w₀ = s.lease w₀) ∧
    (∀ w₀, (s.completeHead m f).holder w₀ = s.holder w₀) ∧ (∀ w₀, (s.completeHead m f).queueOf w₀ = s.queueOf w₀) ∧
    (∀ t₀, (s.completeHead m f).target t₀ = s.target t₀) ∧ (∀ m₀, (s.completeHead m f).slot m₀ = s.slot m₀) ∧
    (∀ m₀, (s.completeHead m f).unit m₀ = s.unit m₀) := by
  unfold State.completeHead; simp

/-- What `refuseHead` leaves unchanged. -/
@[simp] theorem State.refuseHead_frame (m : MasterId) (tag : Tag) (code : RefusalCode) :
    (s.refuseHead m tag code).rstN = s.rstN ∧ (s.refuseHead m tag code).windows = s.windows ∧
    (s.refuseHead m tag code).defaultRead = s.defaultRead ∧
    (s.refuseHead m tag code).defaultWrite = s.defaultWrite ∧ (s.refuseHead m tag code).leases = s.leases ∧
    (s.refuseHead m tag code).claims = s.claims ∧ (s.refuseHead m tag code).time = s.time ∧
    (s.refuseHead m tag code).targets = s.targets ∧ (s.refuseHead m tag code).engine = s.engine ∧
    (s.refuseHead m tag code).notices = s.notices ∧ (s.refuseHead m tag code).toTarget = s.toTarget ∧
    (s.refuseHead m tag code).pending = s.pending ∧ (∀ w₀, (s.refuseHead m tag code).window w₀ = s.window w₀) ∧
    (∀ w₀, (s.refuseHead m tag code).lease w₀ = s.lease w₀) ∧
    (∀ w₀, (s.refuseHead m tag code).holder w₀ = s.holder w₀) ∧
    (∀ w₀, (s.refuseHead m tag code).queueOf w₀ = s.queueOf w₀) ∧
    (∀ t₀, (s.refuseHead m tag code).target t₀ = s.target t₀) ∧
    (∀ m₀, (s.refuseHead m tag code).slot m₀ = s.slot m₀) ∧ (∀ m₀, (s.refuseHead m tag code).unit m₀ = s.unit m₀) := by
  unfold State.refuseHead; simp

/-- What `finishRetirement` leaves unchanged. -/
@[simp] theorem State.finishRetirement_frame (w : WindowId) :
    (s.finishRetirement w).rstN = s.rstN ∧ (s.finishRetirement w).defaultRead = s.defaultRead ∧
    (s.finishRetirement w).defaultWrite = s.defaultWrite ∧ (s.finishRetirement w).leases = s.leases ∧
    (s.finishRetirement w).claims = s.claims ∧ (s.finishRetirement w).time = s.time ∧
    (s.finishRetirement w).targets = s.targets ∧ (s.finishRetirement w).engine = s.engine ∧
    (s.finishRetirement w).ports = s.ports ∧ (s.finishRetirement w).toMaster = s.toMaster ∧
    (s.finishRetirement w).toTarget = s.toTarget ∧ (s.finishRetirement w).pending = s.pending ∧
    (∀ w₀, (s.finishRetirement w).lease w₀ = s.lease w₀) ∧ (∀ w₀, (s.finishRetirement w).holder w₀ = s.holder w₀) ∧
    (∀ w₀, (s.finishRetirement w).queueOf w₀ = s.queueOf w₀) ∧
    (∀ t₀, (s.finishRetirement w).target t₀ = s.target t₀) ∧ (∀ m₀, (s.finishRetirement w).slot m₀ = s.slot m₀) ∧
    (∀ m₀, (s.finishRetirement w).port m₀ = s.port m₀) ∧ (∀ m₀, (s.finishRetirement w).head m₀ = s.head m₀) ∧
    (∀ m₀, (s.finishRetirement w).hears m₀ = s.hears m₀) := by
  unfold State.finishRetirement; (repeat' split) <;> simp

/-- What `countFalls` leaves unchanged. -/
@[simp] theorem State.countFalls_frame (w : WindowId) :
    (s.countFalls w).rstN = s.rstN ∧ (s.countFalls w).defaultRead = s.defaultRead ∧
    (s.countFalls w).defaultWrite = s.defaultWrite ∧ (s.countFalls w).leases = s.leases ∧
    (s.countFalls w).claims = s.claims ∧ (s.countFalls w).time = s.time ∧ (s.countFalls w).targets = s.targets ∧
    (s.countFalls w).engine = s.engine ∧ (s.countFalls w).ports = s.ports ∧ (s.countFalls w).toMaster = s.toMaster ∧
    (s.countFalls w).toTarget = s.toTarget ∧ (s.countFalls w).pending = s.pending ∧
    (∀ w₀, (s.countFalls w).lease w₀ = s.lease w₀) ∧ (∀ w₀, (s.countFalls w).holder w₀ = s.holder w₀) ∧
    (∀ w₀, (s.countFalls w).queueOf w₀ = s.queueOf w₀) ∧ (∀ t₀, (s.countFalls w).target t₀ = s.target t₀) ∧
    (∀ m₀, (s.countFalls w).slot m₀ = s.slot m₀) ∧ (∀ m₀, (s.countFalls w).port m₀ = s.port m₀) ∧
    (∀ m₀, (s.countFalls w).head m₀ = s.head m₀) ∧ (∀ m₀, (s.countFalls w).hears m₀ = s.hears m₀) := by
  unfold State.countFalls; simp

/-- What `bindingEnds` leaves unchanged. -/
@[simp] theorem State.bindingEnds_frame (w : Option WindowId) :
    (s.bindingEnds w).rstN = s.rstN ∧ (s.bindingEnds w).defaultRead = s.defaultRead ∧
    (s.bindingEnds w).defaultWrite = s.defaultWrite ∧ (s.bindingEnds w).leases = s.leases ∧
    (s.bindingEnds w).claims = s.claims ∧ (s.bindingEnds w).time = s.time ∧ (s.bindingEnds w).targets = s.targets ∧
    (s.bindingEnds w).engine = s.engine ∧ (s.bindingEnds w).ports = s.ports ∧
    (s.bindingEnds w).toMaster = s.toMaster ∧ (s.bindingEnds w).toTarget = s.toTarget ∧
    (s.bindingEnds w).pending = s.pending ∧ (∀ w₀, (s.bindingEnds w).lease w₀ = s.lease w₀) ∧
    (∀ w₀, (s.bindingEnds w).holder w₀ = s.holder w₀) ∧ (∀ w₀, (s.bindingEnds w).queueOf w₀ = s.queueOf w₀) ∧
    (∀ t₀, (s.bindingEnds w).target t₀ = s.target t₀) ∧ (∀ m₀, (s.bindingEnds w).slot m₀ = s.slot m₀) ∧
    (∀ m₀, (s.bindingEnds w).port m₀ = s.port m₀) ∧ (∀ m₀, (s.bindingEnds w).head m₀ = s.head m₀) ∧
    (∀ m₀, (s.bindingEnds w).hears m₀ = s.hears m₀) := by
  unfold State.bindingEnds; (repeat' split) <;> simp

/-- What `handOff` leaves unchanged. -/
@[simp] theorem State.handOff_frame (w : WindowId) :
    (s.handOff w).rstN = s.rstN ∧ (s.handOff w).windows = s.windows ∧ (s.handOff w).defaultRead = s.defaultRead ∧
    (s.handOff w).defaultWrite = s.defaultWrite ∧ (s.handOff w).time = s.time ∧ (s.handOff w).targets = s.targets ∧
    (s.handOff w).engine = s.engine ∧ (s.handOff w).ports = s.ports ∧ (s.handOff w).toMaster = s.toMaster ∧
    (s.handOff w).toTarget = s.toTarget ∧ (s.handOff w).pending = s.pending ∧
    (∀ w₀, (s.handOff w).window w₀ = s.window w₀) ∧ (∀ t₀, (s.handOff w).target t₀ = s.target t₀) ∧
    (∀ m₀, (s.handOff w).slot m₀ = s.slot m₀) ∧ (∀ m₀, (s.handOff w).port m₀ = s.port m₀) ∧
    (∀ m₀, (s.handOff w).head m₀ = s.head m₀) ∧ (∀ m₀, (s.handOff w).hears m₀ = s.hears m₀) := by
  unfold State.handOff; (repeat' split) <;> simp

/-- What `endLease` leaves unchanged. -/
@[simp] theorem State.endLease_frame (w : WindowId) :
    (s.endLease w).rstN = s.rstN ∧ (s.endLease w).windows = s.windows ∧ (s.endLease w).defaultRead = s.defaultRead ∧
    (s.endLease w).defaultWrite = s.defaultWrite ∧ (s.endLease w).time = s.time ∧
    (s.endLease w).targets = s.targets ∧ (s.endLease w).engine = s.engine ∧ (s.endLease w).ports = s.ports ∧
    (s.endLease w).toMaster = s.toMaster ∧ (s.endLease w).toTarget = s.toTarget ∧
    (s.endLease w).pending = s.pending ∧ (∀ w₀, (s.endLease w).window w₀ = s.window w₀) ∧
    (∀ t₀, (s.endLease w).target t₀ = s.target t₀) ∧ (∀ m₀, (s.endLease w).slot m₀ = s.slot m₀) ∧
    (∀ m₀, (s.endLease w).port m₀ = s.port m₀) ∧ (∀ m₀, (s.endLease w).head m₀ = s.head m₀) ∧
    (∀ m₀, (s.endLease w).hears m₀ = s.hears m₀) := by
  unfold State.endLease; simp

/-- What `rebindHead` leaves unchanged. -/
@[simp] theorem State.rebindHead_frame (m : MasterId) (b : Binding) :
    (s.rebindHead m b).rstN = s.rstN ∧ (s.rebindHead m b).windows = s.windows ∧
    (s.rebindHead m b).defaultRead = s.defaultRead ∧ (s.rebindHead m b).defaultWrite = s.defaultWrite ∧
    (s.rebindHead m b).leases = s.leases ∧ (s.rebindHead m b).claims = s.claims ∧ (s.rebindHead m b).time = s.time ∧
    (s.rebindHead m b).targets = s.targets ∧ (s.rebindHead m b).engine = s.engine ∧
    (s.rebindHead m b).notices = s.notices ∧ (s.rebindHead m b).toMaster = s.toMaster ∧
    (s.rebindHead m b).toTarget = s.toTarget ∧ (s.rebindHead m b).pending = s.pending ∧
    (∀ w₀, (s.rebindHead m b).window w₀ = s.window w₀) ∧ (∀ w₀, (s.rebindHead m b).lease w₀ = s.lease w₀) ∧
    (∀ w₀, (s.rebindHead m b).holder w₀ = s.holder w₀) ∧ (∀ w₀, (s.rebindHead m b).queueOf w₀ = s.queueOf w₀) ∧
    (∀ t₀, (s.rebindHead m b).target t₀ = s.target t₀) ∧ (∀ m₀, (s.rebindHead m b).slot m₀ = s.slot m₀) ∧
    (∀ m₀, (s.rebindHead m b).unit m₀ = s.unit m₀) := by
  unfold State.rebindHead; (repeat' split) <;> simp

/-- What `pageReadEffect` leaves unchanged. -/
@[simp] theorem State.pageReadEffect_frame (m : MasterId) (w : PageWord) :
    (s.pageReadEffect m w).rstN = s.rstN ∧ (s.pageReadEffect m w).windows = s.windows ∧
    (s.pageReadEffect m w).defaultRead = s.defaultRead ∧ (s.pageReadEffect m w).defaultWrite = s.defaultWrite ∧
    (s.pageReadEffect m w).leases = s.leases ∧ (s.pageReadEffect m w).claims = s.claims ∧
    (s.pageReadEffect m w).time = s.time ∧ (s.pageReadEffect m w).targets = s.targets ∧
    (s.pageReadEffect m w).engine = s.engine ∧ (s.pageReadEffect m w).ports = s.ports ∧
    (s.pageReadEffect m w).toMaster = s.toMaster ∧ (s.pageReadEffect m w).toTarget = s.toTarget ∧
    (s.pageReadEffect m w).pending = s.pending ∧ (∀ w₀, (s.pageReadEffect m w).window w₀ = s.window w₀) ∧
    (∀ w₀, (s.pageReadEffect m w).lease w₀ = s.lease w₀) ∧ (∀ w₀, (s.pageReadEffect m w).holder w₀ = s.holder w₀) ∧
    (∀ w₀, (s.pageReadEffect m w).queueOf w₀ = s.queueOf w₀) ∧
    (∀ t₀, (s.pageReadEffect m w).target t₀ = s.target t₀) ∧ (∀ m₀, (s.pageReadEffect m w).slot m₀ = s.slot m₀) ∧
    (∀ m₀, (s.pageReadEffect m w).port m₀ = s.port m₀) ∧ (∀ m₀, (s.pageReadEffect m w).head m₀ = s.head m₀) ∧
    (∀ m₀, (s.pageReadEffect m w).hears m₀ = s.hears m₀) := by
  unfold State.pageReadEffect; (repeat' split) <;> simp

/-- What `writeCommandWord` leaves unchanged. -/
@[simp] theorem State.writeCommandWord_frame (m : MasterId) (v : Word) (tag : Tag) :
    (s.writeCommandWord m v tag).rstN = s.rstN ∧ (s.writeCommandWord m v tag).windows = s.windows ∧
    (s.writeCommandWord m v tag).defaultRead = s.defaultRead ∧
    (s.writeCommandWord m v tag).defaultWrite = s.defaultWrite ∧ (s.writeCommandWord m v tag).leases = s.leases ∧
    (s.writeCommandWord m v tag).claims = s.claims ∧ (s.writeCommandWord m v tag).time = s.time ∧
    (s.writeCommandWord m v tag).targets = s.targets ∧ (s.writeCommandWord m v tag).ports = s.ports ∧
    (s.writeCommandWord m v tag).toMaster = s.toMaster ∧ (s.writeCommandWord m v tag).toTarget = s.toTarget ∧
    (s.writeCommandWord m v tag).pending = s.pending ∧
    (∀ w₀, (s.writeCommandWord m v tag).window w₀ = s.window w₀) ∧
    (∀ w₀, (s.writeCommandWord m v tag).lease w₀ = s.lease w₀) ∧
    (∀ w₀, (s.writeCommandWord m v tag).holder w₀ = s.holder w₀) ∧
    (∀ w₀, (s.writeCommandWord m v tag).queueOf w₀ = s.queueOf w₀) ∧
    (∀ t₀, (s.writeCommandWord m v tag).target t₀ = s.target t₀) ∧
    (∀ m₀, (s.writeCommandWord m v tag).port m₀ = s.port m₀) ∧
    (∀ m₀, (s.writeCommandWord m v tag).head m₀ = s.head m₀) ∧
    (∀ m₀, (s.writeCommandWord m v tag).hears m₀ = s.hears m₀) := by
  unfold State.writeCommandWord; (repeat' split) <;> simp

/-- What `writeArgument` leaves unchanged. -/
@[simp] theorem State.writeArgument_frame (m : MasterId) (i : Fin 10) (v : Word) :
    (s.writeArgument m i v).rstN = s.rstN ∧ (s.writeArgument m i v).windows = s.windows ∧
    (s.writeArgument m i v).defaultRead = s.defaultRead ∧ (s.writeArgument m i v).defaultWrite = s.defaultWrite ∧
    (s.writeArgument m i v).leases = s.leases ∧ (s.writeArgument m i v).claims = s.claims ∧
    (s.writeArgument m i v).time = s.time ∧ (s.writeArgument m i v).targets = s.targets ∧
    (s.writeArgument m i v).notices = s.notices ∧ (s.writeArgument m i v).ports = s.ports ∧
    (s.writeArgument m i v).toMaster = s.toMaster ∧ (s.writeArgument m i v).toTarget = s.toTarget ∧
    (s.writeArgument m i v).pending = s.pending ∧ (∀ w₀, (s.writeArgument m i v).window w₀ = s.window w₀) ∧
    (∀ w₀, (s.writeArgument m i v).lease w₀ = s.lease w₀) ∧
    (∀ w₀, (s.writeArgument m i v).holder w₀ = s.holder w₀) ∧
    (∀ w₀, (s.writeArgument m i v).queueOf w₀ = s.queueOf w₀) ∧
    (∀ t₀, (s.writeArgument m i v).target t₀ = s.target t₀) ∧ (∀ m₀, (s.writeArgument m i v).unit m₀ = s.unit m₀) ∧
    (∀ m₀, (s.writeArgument m i v).port m₀ = s.port m₀) ∧ (∀ m₀, (s.writeArgument m i v).head m₀ = s.head m₀) ∧
    (∀ m₀, (s.writeArgument m i v).hears m₀ = s.hears m₀) := by
  unfold State.writeArgument; (repeat' split) <;> simp

/-- What `pageWrite` leaves unchanged. -/
@[simp] theorem State.pageWrite_frame (m : MasterId) (w : PageWord) (v : Word) (tag : Tag) :
    (s.pageWrite m w v tag).rstN = s.rstN ∧ (s.pageWrite m w v tag).windows = s.windows ∧
    (s.pageWrite m w v tag).defaultRead = s.defaultRead ∧ (s.pageWrite m w v tag).defaultWrite = s.defaultWrite ∧
    (s.pageWrite m w v tag).leases = s.leases ∧ (s.pageWrite m w v tag).claims = s.claims ∧
    (s.pageWrite m w v tag).time = s.time ∧ (s.pageWrite m w v tag).targets = s.targets ∧
    (s.pageWrite m w v tag).ports = s.ports ∧ (s.pageWrite m w v tag).toMaster = s.toMaster ∧
    (s.pageWrite m w v tag).toTarget = s.toTarget ∧ (s.pageWrite m w v tag).pending = s.pending ∧
    (∀ w₀, (s.pageWrite m w v tag).window w₀ = s.window w₀) ∧
    (∀ w₀, (s.pageWrite m w v tag).lease w₀ = s.lease w₀) ∧
    (∀ w₀, (s.pageWrite m w v tag).holder w₀ = s.holder w₀) ∧
    (∀ w₀, (s.pageWrite m w v tag).queueOf w₀ = s.queueOf w₀) ∧
    (∀ t₀, (s.pageWrite m w v tag).target t₀ = s.target t₀) ∧ (∀ m₀, (s.pageWrite m w v tag).port m₀ = s.port m₀) ∧
    (∀ m₀, (s.pageWrite m w v tag).head m₀ = s.head m₀) ∧ (∀ m₀, (s.pageWrite m w v tag).hears m₀ = s.hears m₀) := by
  unfold State.pageWrite; (repeat' split) <;> simp

/-- What `pageAccess` leaves unchanged. -/
@[simp] theorem State.pageAccess_frame (m : MasterId) (r : Request) :
    (s.pageAccess m r).rstN = s.rstN ∧ (s.pageAccess m r).windows = s.windows ∧
    (s.pageAccess m r).defaultRead = s.defaultRead ∧ (s.pageAccess m r).defaultWrite = s.defaultWrite ∧
    (s.pageAccess m r).leases = s.leases ∧ (s.pageAccess m r).claims = s.claims ∧ (s.pageAccess m r).time = s.time ∧
    (s.pageAccess m r).targets = s.targets ∧ (s.pageAccess m r).toTarget = s.toTarget ∧
    (s.pageAccess m r).pending = s.pending ∧ (∀ w₀, (s.pageAccess m r).window w₀ = s.window w₀) ∧
    (∀ w₀, (s.pageAccess m r).lease w₀ = s.lease w₀) ∧ (∀ w₀, (s.pageAccess m r).holder w₀ = s.holder w₀) ∧
    (∀ w₀, (s.pageAccess m r).queueOf w₀ = s.queueOf w₀) ∧ (∀ t₀, (s.pageAccess m r).target t₀ = s.target t₀) := by
  unfold State.pageAccess; dsimp only; split <;> simp

/-- What `markContention` leaves unchanged. -/
@[simp] theorem State.markContention_frame (w : WindowId) (m : MasterId) :
    (s.markContention w m).rstN = s.rstN ∧ (s.markContention w m).windows = s.windows ∧
    (s.markContention w m).defaultRead = s.defaultRead ∧ (s.markContention w m).defaultWrite = s.defaultWrite ∧
    (s.markContention w m).claims = s.claims ∧ (s.markContention w m).time = s.time ∧
    (s.markContention w m).targets = s.targets ∧ (s.markContention w m).engine = s.engine ∧
    (s.markContention w m).ports = s.ports ∧ (s.markContention w m).toMaster = s.toMaster ∧
    (s.markContention w m).toTarget = s.toTarget ∧ (s.markContention w m).pending = s.pending ∧
    (∀ w₀, (s.markContention w m).window w₀ = s.window w₀) ∧
    (∀ w₀, (s.markContention w m).queueOf w₀ = s.queueOf w₀) ∧
    (∀ t₀, (s.markContention w m).target t₀ = s.target t₀) ∧ (∀ m₀, (s.markContention w m).slot m₀ = s.slot m₀) ∧
    (∀ m₀, (s.markContention w m).port m₀ = s.port m₀) ∧ (∀ m₀, (s.markContention w m).head m₀ = s.head m₀) ∧
    (∀ m₀, (s.markContention w m).hears m₀ = s.hears m₀) := by
  unfold State.markContention; (repeat' split) <;> simp

/-- What `startWaiting` leaves unchanged. -/
@[simp] theorem State.startWaiting_frame (m : MasterId) (t : TargetId) :
    (s.startWaiting m t).rstN = s.rstN ∧ (s.startWaiting m t).windows = s.windows ∧
    (s.startWaiting m t).defaultRead = s.defaultRead ∧ (s.startWaiting m t).defaultWrite = s.defaultWrite ∧
    (s.startWaiting m t).leases = s.leases ∧ (s.startWaiting m t).claims = s.claims ∧
    (s.startWaiting m t).time = s.time ∧ (s.startWaiting m t).engine = s.engine ∧
    (s.startWaiting m t).notices = s.notices ∧ (s.startWaiting m t).ports = s.ports ∧
    (s.startWaiting m t).toMaster = s.toMaster ∧ (s.startWaiting m t).toTarget = s.toTarget ∧
    (s.startWaiting m t).pending = s.pending ∧ (∀ w₀, (s.startWaiting m t).window w₀ = s.window w₀) ∧
    (∀ w₀, (s.startWaiting m t).lease w₀ = s.lease w₀) ∧ (∀ w₀, (s.startWaiting m t).holder w₀ = s.holder w₀) ∧
    (∀ w₀, (s.startWaiting m t).queueOf w₀ = s.queueOf w₀) ∧ (∀ m₀, (s.startWaiting m t).slot m₀ = s.slot m₀) ∧
    (∀ m₀, (s.startWaiting m t).unit m₀ = s.unit m₀) ∧ (∀ m₀, (s.startWaiting m t).port m₀ = s.port m₀) ∧
    (∀ m₀, (s.startWaiting m t).head m₀ = s.head m₀) ∧ (∀ m₀, (s.startWaiting m t).hears m₀ = s.hears m₀) := by
  unfold State.startWaiting; simp

/-- What `countRises` leaves unchanged. -/
@[simp] theorem State.countRises_frame (w : WindowId) :
    (s.countRises w).rstN = s.rstN ∧ (s.countRises w).defaultRead = s.defaultRead ∧
    (s.countRises w).defaultWrite = s.defaultWrite ∧ (s.countRises w).leases = s.leases ∧
    (s.countRises w).claims = s.claims ∧ (s.countRises w).time = s.time ∧ (s.countRises w).targets = s.targets ∧
    (s.countRises w).engine = s.engine ∧ (s.countRises w).notices = s.notices ∧ (s.countRises w).ports = s.ports ∧
    (s.countRises w).toMaster = s.toMaster ∧ (s.countRises w).toTarget = s.toTarget ∧
    (s.countRises w).pending = s.pending ∧ (∀ w₀, (s.countRises w).lease w₀ = s.lease w₀) ∧
    (∀ w₀, (s.countRises w).holder w₀ = s.holder w₀) ∧ (∀ w₀, (s.countRises w).queueOf w₀ = s.queueOf w₀) ∧
    (∀ t₀, (s.countRises w).target t₀ = s.target t₀) ∧ (∀ m₀, (s.countRises w).slot m₀ = s.slot m₀) ∧
    (∀ m₀, (s.countRises w).unit m₀ = s.unit m₀) ∧ (∀ m₀, (s.countRises w).port m₀ = s.port m₀) ∧
    (∀ m₀, (s.countRises w).head m₀ = s.head m₀) ∧ (∀ m₀, (s.countRises w).hears m₀ = s.hears m₀) := by
  unfold State.countRises; simp

/-- What `bindingBegins` leaves unchanged. -/
@[simp] theorem State.bindingBegins_frame (w : Option WindowId) :
    (s.bindingBegins w).rstN = s.rstN ∧ (s.bindingBegins w).defaultRead = s.defaultRead ∧
    (s.bindingBegins w).defaultWrite = s.defaultWrite ∧ (s.bindingBegins w).leases = s.leases ∧
    (s.bindingBegins w).claims = s.claims ∧ (s.bindingBegins w).time = s.time ∧
    (s.bindingBegins w).targets = s.targets ∧ (s.bindingBegins w).engine = s.engine ∧
    (s.bindingBegins w).notices = s.notices ∧ (s.bindingBegins w).ports = s.ports ∧
    (s.bindingBegins w).toMaster = s.toMaster ∧ (s.bindingBegins w).toTarget = s.toTarget ∧
    (s.bindingBegins w).pending = s.pending ∧ (∀ w₀, (s.bindingBegins w).lease w₀ = s.lease w₀) ∧
    (∀ w₀, (s.bindingBegins w).holder w₀ = s.holder w₀) ∧ (∀ w₀, (s.bindingBegins w).queueOf w₀ = s.queueOf w₀) ∧
    (∀ t₀, (s.bindingBegins w).target t₀ = s.target t₀) ∧ (∀ m₀, (s.bindingBegins w).slot m₀ = s.slot m₀) ∧
    (∀ m₀, (s.bindingBegins w).unit m₀ = s.unit m₀) ∧ (∀ m₀, (s.bindingBegins w).port m₀ = s.port m₀) ∧
    (∀ m₀, (s.bindingBegins w).head m₀ = s.head m₀) ∧ (∀ m₀, (s.bindingBegins w).hears m₀ = s.hears m₀) := by
  unfold State.bindingBegins; (repeat' split) <;> simp

/-- What `bindHead` leaves unchanged. -/
@[simp] theorem State.bindHead_frame (m : MasterId) (b : Binding) :
    (s.bindHead m b).rstN = s.rstN ∧ (s.bindHead m b).defaultRead = s.defaultRead ∧
    (s.bindHead m b).defaultWrite = s.defaultWrite ∧ (s.bindHead m b).leases = s.leases ∧
    (s.bindHead m b).claims = s.claims ∧ (s.bindHead m b).time = s.time ∧ (s.bindHead m b).engine = s.engine ∧
    (s.bindHead m b).notices = s.notices ∧ (s.bindHead m b).toMaster = s.toMaster ∧
    (s.bindHead m b).toTarget = s.toTarget ∧ (s.bindHead m b).pending = s.pending ∧
    (∀ w₀, (s.bindHead m b).lease w₀ = s.lease w₀) ∧ (∀ w₀, (s.bindHead m b).holder w₀ = s.holder w₀) ∧
    (∀ w₀, (s.bindHead m b).queueOf w₀ = s.queueOf w₀) ∧ (∀ m₀, (s.bindHead m b).slot m₀ = s.slot m₀) ∧
    (∀ m₀, (s.bindHead m b).unit m₀ = s.unit m₀) := by
  unfold State.bindHead BoundRoute.waitsAt; split <;> simp

/-- What `holdHead` leaves unchanged. -/
@[simp] theorem State.holdHead_frame (m : MasterId) :
    (s.holdHead m).rstN = s.rstN ∧ (s.holdHead m).windows = s.windows ∧ (s.holdHead m).defaultRead = s.defaultRead ∧
    (s.holdHead m).defaultWrite = s.defaultWrite ∧ (s.holdHead m).leases = s.leases ∧
    (s.holdHead m).claims = s.claims ∧ (s.holdHead m).time = s.time ∧ (s.holdHead m).targets = s.targets ∧
    (s.holdHead m).engine = s.engine ∧ (s.holdHead m).notices = s.notices ∧ (s.holdHead m).toMaster = s.toMaster ∧
    (s.holdHead m).toTarget = s.toTarget ∧ (s.holdHead m).pending = s.pending ∧
    (∀ w₀, (s.holdHead m).window w₀ = s.window w₀) ∧ (∀ w₀, (s.holdHead m).lease w₀ = s.lease w₀) ∧
    (∀ w₀, (s.holdHead m).holder w₀ = s.holder w₀) ∧ (∀ w₀, (s.holdHead m).queueOf w₀ = s.queueOf w₀) ∧
    (∀ t₀, (s.holdHead m).target t₀ = s.target t₀) ∧ (∀ m₀, (s.holdHead m).slot m₀ = s.slot m₀) ∧
    (∀ m₀, (s.holdHead m).unit m₀ = s.unit m₀) := by
  unfold State.holdHead; (repeat' split) <;> simp

/-- What `carryOut` leaves unchanged. -/
@[simp] theorem State.carryOut_frame (m : MasterId) (r : Request) (d : Decision) :
    (s.carryOut m r d).rstN = s.rstN ∧ (s.carryOut m r d).defaultRead = s.defaultRead ∧
    (s.carryOut m r d).defaultWrite = s.defaultWrite ∧ (s.carryOut m r d).claims = s.claims ∧
    (s.carryOut m r d).time = s.time ∧ (s.carryOut m r d).toTarget = s.toTarget ∧
    (s.carryOut m r d).pending = s.pending ∧ (∀ w₀, (s.carryOut m r d).queueOf w₀ = s.queueOf w₀) := by
  unfold State.carryOut; split <;> simp

/-- What `decideHead` leaves unchanged. -/
@[simp] theorem State.decideHead_frame (m : MasterId) :
    (s.decideHead m).rstN = s.rstN ∧ (s.decideHead m).defaultRead = s.defaultRead ∧
    (s.decideHead m).defaultWrite = s.defaultWrite ∧ (s.decideHead m).claims = s.claims ∧
    (s.decideHead m).time = s.time ∧ (s.decideHead m).toTarget = s.toTarget ∧ (s.decideHead m).pending = s.pending ∧
    (∀ w₀, (s.decideHead m).queueOf w₀ = s.queueOf w₀) := by
  unfold State.decideHead; (repeat' split) <;> simp

/-- A request that is steered reaches no control page word. -/
@[simp] theorem State.steered_ne_controlPage (m : MasterId) (r : Request) : s.steered m r ≠ .controlPage := by
  unfold State.steered State.defaultDecision State.windowDecision State.routeDecision State.countLimited State.oneTarget
    State.twoTargets
  (repeat' split) <;> simp_all

/-- A decision other than a control page access leaves the engine as it was. -/
theorem State.carryOut_engine (m : MasterId) (r : Request) {d : Decision} (h : d ≠ .controlPage) :
    (s.carryOut m r d).engine = s.engine := by
  unfold State.carryOut; split <;> simp_all

/-- What `redecideHead` leaves unchanged. -/
@[simp] theorem State.redecideHead_frame (m : MasterId) :
    (s.redecideHead m).rstN = s.rstN ∧ (s.redecideHead m).defaultRead = s.defaultRead ∧
    (s.redecideHead m).defaultWrite = s.defaultWrite ∧ (s.redecideHead m).claims = s.claims ∧
    (s.redecideHead m).time = s.time ∧ (s.redecideHead m).engine = s.engine ∧
    (s.redecideHead m).toTarget = s.toTarget ∧ (s.redecideHead m).pending = s.pending ∧
    (∀ w₀, (s.redecideHead m).queueOf w₀ = s.queueOf w₀) ∧ (∀ m₀, (s.redecideHead m).slot m₀ = s.slot m₀) := by
  unfold State.redecideHead; split <;> simp [State.slot, State.carryOut_engine]

/-- What `redecideHeads` leaves unchanged. -/
@[simp] theorem State.redecideHeads_frame  :
    (s.redecideHeads).rstN = s.rstN ∧ (s.redecideHeads).defaultRead = s.defaultRead ∧
    (s.redecideHeads).defaultWrite = s.defaultWrite ∧ (s.redecideHeads).claims = s.claims ∧
    (s.redecideHeads).time = s.time ∧ (s.redecideHeads).engine = s.engine ∧
    (s.redecideHeads).toTarget = s.toTarget ∧ (s.redecideHeads).pending = s.pending ∧
    (∀ w₀, (s.redecideHeads).queueOf w₀ = s.queueOf w₀) ∧ (∀ m₀, (s.redecideHeads).slot m₀ = s.slot m₀) := by
  unfold State.redecideHeads
  generalize allMasters = l
  induction l generalizing s with
  | nil => simp
  | cons a l ih => simp only [List.foldl_cons]; simp [ih]

/-- What `redecideAfterFalls` leaves unchanged. -/
@[simp] theorem State.redecideAfterFalls_frame (before : State) :
    (s.redecideAfterFalls before).rstN = s.rstN ∧ (s.redecideAfterFalls before).defaultRead = s.defaultRead ∧
    (s.redecideAfterFalls before).defaultWrite = s.defaultWrite ∧ (s.redecideAfterFalls before).claims = s.claims ∧
    (s.redecideAfterFalls before).time = s.time ∧ (s.redecideAfterFalls before).engine = s.engine ∧
    (s.redecideAfterFalls before).toTarget = s.toTarget ∧ (s.redecideAfterFalls before).pending = s.pending ∧
    (∀ w₀, (s.redecideAfterFalls before).queueOf w₀ = s.queueOf w₀) ∧
    (∀ m₀, (s.redecideAfterFalls before).slot m₀ = s.slot m₀) := by
  unfold State.redecideAfterFalls; (repeat' split) <;> simp

/-- What `finishCommand` leaves unchanged. -/
@[simp] theorem State.finishCommand_frame (u : UnderWay) (r : Reply) :
    (s.finishCommand u r).rstN = s.rstN ∧ (s.finishCommand u r).windows = s.windows ∧
    (s.finishCommand u r).defaultRead = s.defaultRead ∧ (s.finishCommand u r).defaultWrite = s.defaultWrite ∧
    (s.finishCommand u r).leases = s.leases ∧ (s.finishCommand u r).claims = s.claims ∧
    (s.finishCommand u r).time = s.time ∧ (s.finishCommand u r).targets = s.targets ∧
    (s.finishCommand u r).notices = s.notices ∧ (s.finishCommand u r).ports = s.ports ∧
    (s.finishCommand u r).toMaster = s.toMaster ∧ (s.finishCommand u r).toTarget = s.toTarget ∧
    (s.finishCommand u r).pending = s.pending ∧ (∀ w₀, (s.finishCommand u r).window w₀ = s.window w₀) ∧
    (∀ w₀, (s.finishCommand u r).lease w₀ = s.lease w₀) ∧ (∀ w₀, (s.finishCommand u r).holder w₀ = s.holder w₀) ∧
    (∀ w₀, (s.finishCommand u r).queueOf w₀ = s.queueOf w₀) ∧
    (∀ t₀, (s.finishCommand u r).target t₀ = s.target t₀) ∧ (∀ m₀, (s.finishCommand u r).unit m₀ = s.unit m₀) ∧
    (∀ m₀, (s.finishCommand u r).port m₀ = s.port m₀) ∧ (∀ m₀, (s.finishCommand u r).head m₀ = s.head m₀) ∧
    (∀ m₀, (s.finishCommand u r).hears m₀ = s.hears m₀) := by
  unfold State.finishCommand; (repeat' split) <;> simp

/-- What `expireLease` leaves unchanged. -/
@[simp] theorem State.expireLease_frame (w : WindowId) (h : MasterId) :
    (s.expireLease w h).rstN = s.rstN ∧ (s.expireLease w h).windows = s.windows ∧
    (s.expireLease w h).defaultRead = s.defaultRead ∧ (s.expireLease w h).defaultWrite = s.defaultWrite ∧
    (s.expireLease w h).time = s.time ∧ (s.expireLease w h).targets = s.targets ∧
    (s.expireLease w h).engine = s.engine ∧ (s.expireLease w h).ports = s.ports ∧
    (s.expireLease w h).toMaster = s.toMaster ∧ (s.expireLease w h).toTarget = s.toTarget ∧
    (s.expireLease w h).pending = s.pending ∧ (∀ w₀, (s.expireLease w h).window w₀ = s.window w₀) ∧
    (∀ t₀, (s.expireLease w h).target t₀ = s.target t₀) ∧ (∀ m₀, (s.expireLease w h).slot m₀ = s.slot m₀) ∧
    (∀ m₀, (s.expireLease w h).port m₀ = s.port m₀) ∧ (∀ m₀, (s.expireLease w h).head m₀ = s.head m₀) ∧
    (∀ m₀, (s.expireLease w h).hears m₀ = s.hears m₀) := by
  unfold State.expireLease; simp

/-- What `countLease` leaves unchanged. -/
@[simp] theorem State.countLease_frame (w : WindowId) :
    (s.countLease w).rstN = s.rstN ∧ (s.countLease w).windows = s.windows ∧
    (s.countLease w).defaultRead = s.defaultRead ∧ (s.countLease w).defaultWrite = s.defaultWrite ∧
    (s.countLease w).time = s.time ∧ (s.countLease w).targets = s.targets ∧ (s.countLease w).engine = s.engine ∧
    (s.countLease w).ports = s.ports ∧ (s.countLease w).toMaster = s.toMaster ∧
    (s.countLease w).toTarget = s.toTarget ∧ (s.countLease w).pending = s.pending ∧
    (∀ w₀, (s.countLease w).window w₀ = s.window w₀) ∧ (∀ t₀, (s.countLease w).target t₀ = s.target t₀) ∧
    (∀ m₀, (s.countLease w).slot m₀ = s.slot m₀) ∧ (∀ m₀, (s.countLease w).port m₀ = s.port m₀) ∧
    (∀ m₀, (s.countLease w).head m₀ = s.head m₀) ∧ (∀ m₀, (s.countLease w).hears m₀ = s.hears m₀) := by
  unfold State.countLease; (repeat' split) <;> simp

/-- What `removeClaim` leaves unchanged. -/
@[simp] theorem State.removeClaim_frame (w : WindowId) (m : MasterId) :
    (s.removeClaim w m).rstN = s.rstN ∧ (s.removeClaim w m).windows = s.windows ∧
    (s.removeClaim w m).defaultRead = s.defaultRead ∧ (s.removeClaim w m).defaultWrite = s.defaultWrite ∧
    (s.removeClaim w m).leases = s.leases ∧ (s.removeClaim w m).time = s.time ∧
    (s.removeClaim w m).targets = s.targets ∧ (s.removeClaim w m).engine = s.engine ∧
    (s.removeClaim w m).notices = s.notices ∧ (s.removeClaim w m).ports = s.ports ∧
    (s.removeClaim w m).toMaster = s.toMaster ∧ (s.removeClaim w m).toTarget = s.toTarget ∧
    (s.removeClaim w m).pending = s.pending ∧ (∀ w₀, (s.removeClaim w m).window w₀ = s.window w₀) ∧
    (∀ w₀, (s.removeClaim w m).lease w₀ = s.lease w₀) ∧ (∀ w₀, (s.removeClaim w m).holder w₀ = s.holder w₀) ∧
    (∀ t₀, (s.removeClaim w m).target t₀ = s.target t₀) ∧ (∀ m₀, (s.removeClaim w m).slot m₀ = s.slot m₀) ∧
    (∀ m₀, (s.removeClaim w m).unit m₀ = s.unit m₀) ∧ (∀ m₀, (s.removeClaim w m).port m₀ = s.port m₀) ∧
    (∀ m₀, (s.removeClaim w m).head m₀ = s.head m₀) ∧ (∀ m₀, (s.removeClaim w m).hears m₀ = s.hears m₀) := by
  unfold State.removeClaim; simp

/-- What `countClaim` leaves unchanged. -/
@[simp] theorem State.countClaim_frame (w : WindowId) (m : MasterId) :
    (s.countClaim w m).rstN = s.rstN ∧ (s.countClaim w m).windows = s.windows ∧
    (s.countClaim w m).defaultRead = s.defaultRead ∧ (s.countClaim w m).defaultWrite = s.defaultWrite ∧
    (s.countClaim w m).leases = s.leases ∧ (s.countClaim w m).time = s.time ∧
    (s.countClaim w m).targets = s.targets ∧ (s.countClaim w m).engine = s.engine ∧
    (s.countClaim w m).ports = s.ports ∧ (s.countClaim w m).toMaster = s.toMaster ∧
    (s.countClaim w m).toTarget = s.toTarget ∧ (s.countClaim w m).pending = s.pending ∧
    (∀ w₀, (s.countClaim w m).window w₀ = s.window w₀) ∧ (∀ w₀, (s.countClaim w m).lease w₀ = s.lease w₀) ∧
    (∀ w₀, (s.countClaim w m).holder w₀ = s.holder w₀) ∧ (∀ t₀, (s.countClaim w m).target t₀ = s.target t₀) ∧
    (∀ m₀, (s.countClaim w m).slot m₀ = s.slot m₀) ∧ (∀ m₀, (s.countClaim w m).port m₀ = s.port m₀) ∧
    (∀ m₀, (s.countClaim w m).head m₀ = s.head m₀) ∧ (∀ m₀, (s.countClaim w m).hears m₀ = s.hears m₀) := by
  unfold State.countClaim; (repeat' split) <;> simp

/-- What `endMirror` leaves unchanged. -/
@[simp] theorem State.endMirror_frame (r : MirrorRecord) :
    (s.endMirror r).rstN = s.rstN ∧ (s.endMirror r).defaultRead = s.defaultRead ∧
    (s.endMirror r).defaultWrite = s.defaultWrite ∧ (s.endMirror r).leases = s.leases ∧
    (s.endMirror r).claims = s.claims ∧ (s.endMirror r).time = s.time ∧ (s.endMirror r).targets = s.targets ∧
    (s.endMirror r).engine = s.engine ∧ (s.endMirror r).toTarget = s.toTarget ∧
    (s.endMirror r).pending = s.pending ∧ (∀ w₀, (s.endMirror r).lease w₀ = s.lease w₀) ∧
    (∀ w₀, (s.endMirror r).holder w₀ = s.holder w₀) ∧ (∀ w₀, (s.endMirror r).queueOf w₀ = s.queueOf w₀) ∧
    (∀ t₀, (s.endMirror r).target t₀ = s.target t₀) ∧ (∀ m₀, (s.endMirror r).slot m₀ = s.slot m₀) := by
  unfold State.endMirror; dsimp only; (repeat' split) <;> simp

/-- What `legEnds` leaves unchanged. -/
@[simp] theorem State.legEnds_frame (ref : LegRef) (t : TargetId) (x : Xid) (o : EndOutcome) :
    (s.legEnds ref t x o).rstN = s.rstN ∧ (s.legEnds ref t x o).defaultRead = s.defaultRead ∧
    (s.legEnds ref t x o).defaultWrite = s.defaultWrite ∧ (s.legEnds ref t x o).leases = s.leases ∧
    (s.legEnds ref t x o).claims = s.claims ∧ (s.legEnds ref t x o).time = s.time ∧
    (s.legEnds ref t x o).engine = s.engine ∧ (s.legEnds ref t x o).toTarget = s.toTarget ∧
    (s.legEnds ref t x o).pending = s.pending ∧ (∀ w₀, (s.legEnds ref t x o).lease w₀ = s.lease w₀) ∧
    (∀ w₀, (s.legEnds ref t x o).holder w₀ = s.holder w₀) ∧
    (∀ w₀, (s.legEnds ref t x o).queueOf w₀ = s.queueOf w₀) ∧ (∀ m₀, (s.legEnds ref t x o).slot m₀ = s.slot m₀) := by
  unfold State.legEnds; dsimp only; (repeat' split) <;> simp

/-- What `endTransaction` leaves unchanged. -/
@[simp] theorem State.endTransaction_frame (t : TargetId) (x : Xid) (o : EndOutcome) (d : List Byte) :
    (s.endTransaction t x o d).rstN = s.rstN ∧ (s.endTransaction t x o d).defaultRead = s.defaultRead ∧
    (s.endTransaction t x o d).defaultWrite = s.defaultWrite ∧ (s.endTransaction t x o d).leases = s.leases ∧
    (s.endTransaction t x o d).claims = s.claims ∧ (s.endTransaction t x o d).time = s.time ∧
    (s.endTransaction t x o d).engine = s.engine ∧ (s.endTransaction t x o d).toTarget = s.toTarget ∧
    (s.endTransaction t x o d).pending = s.pending ∧ (∀ w₀, (s.endTransaction t x o d).lease w₀ = s.lease w₀) ∧
    (∀ w₀, (s.endTransaction t x o d).holder w₀ = s.holder w₀) ∧
    (∀ w₀, (s.endTransaction t x o d).queueOf w₀ = s.queueOf w₀) ∧
    (∀ m₀, (s.endTransaction t x o d).slot m₀ = s.slot m₀) := by
  unfold State.endTransaction; dsimp only; (repeat' split) <;> simp

/-- What `stopWaiting` leaves unchanged. -/
@[simp] theorem State.stopWaiting_frame (t : TargetId) (m : MasterId) :
    (s.stopWaiting t m).rstN = s.rstN ∧ (s.stopWaiting t m).windows = s.windows ∧
    (s.stopWaiting t m).defaultRead = s.defaultRead ∧ (s.stopWaiting t m).defaultWrite = s.defaultWrite ∧
    (s.stopWaiting t m).leases = s.leases ∧ (s.stopWaiting t m).claims = s.claims ∧
    (s.stopWaiting t m).time = s.time ∧ (s.stopWaiting t m).engine = s.engine ∧
    (s.stopWaiting t m).notices = s.notices ∧ (s.stopWaiting t m).ports = s.ports ∧
    (s.stopWaiting t m).toMaster = s.toMaster ∧ (s.stopWaiting t m).toTarget = s.toTarget ∧
    (s.stopWaiting t m).pending = s.pending ∧ (∀ w₀, (s.stopWaiting t m).window w₀ = s.window w₀) ∧
    (∀ w₀, (s.stopWaiting t m).lease w₀ = s.lease w₀) ∧ (∀ w₀, (s.stopWaiting t m).holder w₀ = s.holder w₀) ∧
    (∀ w₀, (s.stopWaiting t m).queueOf w₀ = s.queueOf w₀) ∧ (∀ m₀, (s.stopWaiting t m).slot m₀ = s.slot m₀) ∧
    (∀ m₀, (s.stopWaiting t m).unit m₀ = s.unit m₀) ∧ (∀ m₀, (s.stopWaiting t m).port m₀ = s.port m₀) ∧
    (∀ m₀, (s.stopWaiting t m).head m₀ = s.head m₀) ∧ (∀ m₀, (s.stopWaiting t m).hears m₀ = s.hears m₀) := by
  unfold State.stopWaiting; simp

/-- What `reexamineHead` leaves unchanged. -/
@[simp] theorem State.reexamineHead_frame (t : TargetId) (m : MasterId) :
    (s.reexamineHead t m).rstN = s.rstN ∧ (s.reexamineHead t m).defaultRead = s.defaultRead ∧
    (s.reexamineHead t m).defaultWrite = s.defaultWrite ∧ (s.reexamineHead t m).leases = s.leases ∧
    (s.reexamineHead t m).claims = s.claims ∧ (s.reexamineHead t m).time = s.time ∧
    (s.reexamineHead t m).engine = s.engine ∧ (s.reexamineHead t m).toTarget = s.toTarget ∧
    (s.reexamineHead t m).pending = s.pending ∧ (∀ w₀, (s.reexamineHead t m).lease w₀ = s.lease w₀) ∧
    (∀ w₀, (s.reexamineHead t m).holder w₀ = s.holder w₀) ∧
    (∀ w₀, (s.reexamineHead t m).queueOf w₀ = s.queueOf w₀) ∧ (∀ m₀, (s.reexamineHead t m).slot m₀ = s.slot m₀) := by
  unfold State.reexamineHead; dsimp only; (repeat' split) <;> simp

/-- What `reexamine` leaves unchanged. -/
@[simp] theorem State.reexamine_frame (t : TargetId) :
    (s.reexamine t).rstN = s.rstN ∧ (s.reexamine t).defaultRead = s.defaultRead ∧
    (s.reexamine t).defaultWrite = s.defaultWrite ∧ (s.reexamine t).leases = s.leases ∧
    (s.reexamine t).claims = s.claims ∧ (s.reexamine t).time = s.time ∧ (s.reexamine t).engine = s.engine ∧
    (s.reexamine t).toTarget = s.toTarget ∧ (s.reexamine t).pending = s.pending ∧
    (∀ w₀, (s.reexamine t).lease w₀ = s.lease w₀) ∧ (∀ w₀, (s.reexamine t).holder w₀ = s.holder w₀) ∧
    (∀ w₀, (s.reexamine t).queueOf w₀ = s.queueOf w₀) ∧ (∀ m₀, (s.reexamine t).slot m₀ = s.slot m₀) := by
  unfold State.reexamine
  generalize (s.target t).waiting.members = l
  induction l generalizing s with
  | nil => simp
  | cons a l ih => simp only [List.foldl_cons]; simp [ih]

/-- What `enterState` leaves unchanged. -/
@[simp] theorem State.enterState_frame (t : TargetId) (st : TargetState) :
    (s.enterState t st).rstN = s.rstN ∧ (s.enterState t st).windows = s.windows ∧
    (s.enterState t st).defaultRead = s.defaultRead ∧ (s.enterState t st).defaultWrite = s.defaultWrite ∧
    (s.enterState t st).leases = s.leases ∧ (s.enterState t st).claims = s.claims ∧
    (s.enterState t st).time = s.time ∧ (s.enterState t st).engine = s.engine ∧
    (s.enterState t st).notices = s.notices ∧ (s.enterState t st).ports = s.ports ∧
    (s.enterState t st).toMaster = s.toMaster ∧ (s.enterState t st).toTarget = s.toTarget ∧
    (s.enterState t st).pending = s.pending ∧ (∀ w₀, (s.enterState t st).window w₀ = s.window w₀) ∧
    (∀ w₀, (s.enterState t st).lease w₀ = s.lease w₀) ∧ (∀ w₀, (s.enterState t st).holder w₀ = s.holder w₀) ∧
    (∀ w₀, (s.enterState t st).queueOf w₀ = s.queueOf w₀) ∧ (∀ m₀, (s.enterState t st).slot m₀ = s.slot m₀) ∧
    (∀ m₀, (s.enterState t st).unit m₀ = s.unit m₀) ∧ (∀ m₀, (s.enterState t st).port m₀ = s.port m₀) ∧
    (∀ m₀, (s.enterState t st).head m₀ = s.head m₀) ∧ (∀ m₀, (s.enterState t st).hears m₀ = s.hears m₀) := by
  unfold State.enterState; simp

/-- What `faultByThreshold` leaves unchanged. -/
@[simp] theorem State.faultByThreshold_frame (t : TargetId) :
    (s.faultByThreshold t).rstN = s.rstN ∧ (s.faultByThreshold t).defaultRead = s.defaultRead ∧
    (s.faultByThreshold t).defaultWrite = s.defaultWrite ∧ (s.faultByThreshold t).leases = s.leases ∧
    (s.faultByThreshold t).claims = s.claims ∧ (s.faultByThreshold t).time = s.time ∧
    (s.faultByThreshold t).engine = s.engine ∧ (s.faultByThreshold t).toTarget = s.toTarget ∧
    (s.faultByThreshold t).pending = s.pending ∧ (∀ w₀, (s.faultByThreshold t).lease w₀ = s.lease w₀) ∧
    (∀ w₀, (s.faultByThreshold t).holder w₀ = s.holder w₀) ∧
    (∀ w₀, (s.faultByThreshold t).queueOf w₀ = s.queueOf w₀) ∧ (∀ m₀, (s.faultByThreshold t).slot m₀ = s.slot m₀) := by
  unfold State.faultByThreshold; simp

/-- What `tellRequesters` leaves unchanged. -/
@[simp] theorem State.tellRequesters_frame (t : TargetId) (b : NoticeBody) :
    (s.tellRequesters t b).rstN = s.rstN ∧ (s.tellRequesters t b).windows = s.windows ∧
    (s.tellRequesters t b).defaultRead = s.defaultRead ∧ (s.tellRequesters t b).defaultWrite = s.defaultWrite ∧
    (s.tellRequesters t b).leases = s.leases ∧ (s.tellRequesters t b).claims = s.claims ∧
    (s.tellRequesters t b).time = s.time ∧ (s.tellRequesters t b).engine = s.engine ∧
    (s.tellRequesters t b).ports = s.ports ∧ (s.tellRequesters t b).toMaster = s.toMaster ∧
    (s.tellRequesters t b).toTarget = s.toTarget ∧ (s.tellRequesters t b).pending = s.pending ∧
    (∀ w₀, (s.tellRequesters t b).window w₀ = s.window w₀) ∧ (∀ w₀, (s.tellRequesters t b).lease w₀ = s.lease w₀) ∧
    (∀ w₀, (s.tellRequesters t b).holder w₀ = s.holder w₀) ∧
    (∀ w₀, (s.tellRequesters t b).queueOf w₀ = s.queueOf w₀) ∧ (∀ m₀, (s.tellRequesters t b).slot m₀ = s.slot m₀) ∧
    (∀ m₀, (s.tellRequesters t b).port m₀ = s.port m₀) ∧ (∀ m₀, (s.tellRequesters t b).head m₀ = s.head m₀) ∧
    (∀ m₀, (s.tellRequesters t b).hears m₀ = s.hears m₀) := by
  unfold State.tellRequesters; simp

/-- What `finishDrain` leaves unchanged. -/
@[simp] theorem State.finishDrain_frame (t : TargetId) :
    (s.finishDrain t).rstN = s.rstN ∧ (s.finishDrain t).windows = s.windows ∧
    (s.finishDrain t).defaultRead = s.defaultRead ∧ (s.finishDrain t).defaultWrite = s.defaultWrite ∧
    (s.finishDrain t).leases = s.leases ∧ (s.finishDrain t).claims = s.claims ∧ (s.finishDrain t).time = s.time ∧
    (s.finishDrain t).engine = s.engine ∧ (s.finishDrain t).ports = s.ports ∧
    (s.finishDrain t).toMaster = s.toMaster ∧ (s.finishDrain t).toTarget = s.toTarget ∧
    (s.finishDrain t).pending = s.pending ∧ (∀ w₀, (s.finishDrain t).window w₀ = s.window w₀) ∧
    (∀ w₀, (s.finishDrain t).lease w₀ = s.lease w₀) ∧ (∀ w₀, (s.finishDrain t).holder w₀ = s.holder w₀) ∧
    (∀ w₀, (s.finishDrain t).queueOf w₀ = s.queueOf w₀) ∧ (∀ m₀, (s.finishDrain t).slot m₀ = s.slot m₀) ∧
    (∀ m₀, (s.finishDrain t).port m₀ = s.port m₀) ∧ (∀ m₀, (s.finishDrain t).head m₀ = s.head m₀) ∧
    (∀ m₀, (s.finishDrain t).hears m₀ = s.hears m₀) := by
  unfold State.finishDrain; (repeat' split) <;> simp

/-- What `countTimeout` leaves unchanged. -/
@[simp] theorem State.countTimeout_frame (t : TargetId) :
    (s.countTimeout t).rstN = s.rstN ∧ (s.countTimeout t).windows = s.windows ∧
    (s.countTimeout t).defaultRead = s.defaultRead ∧ (s.countTimeout t).defaultWrite = s.defaultWrite ∧
    (s.countTimeout t).leases = s.leases ∧ (s.countTimeout t).claims = s.claims ∧ (s.countTimeout t).time = s.time ∧
    (s.countTimeout t).engine = s.engine ∧ (s.countTimeout t).notices = s.notices ∧
    (s.countTimeout t).ports = s.ports ∧ (s.countTimeout t).toMaster = s.toMaster ∧
    (s.countTimeout t).toTarget = s.toTarget ∧ (s.countTimeout t).pending = s.pending ∧
    (∀ w₀, (s.countTimeout t).window w₀ = s.window w₀) ∧ (∀ w₀, (s.countTimeout t).lease w₀ = s.lease w₀) ∧
    (∀ w₀, (s.countTimeout t).holder w₀ = s.holder w₀) ∧ (∀ w₀, (s.countTimeout t).queueOf w₀ = s.queueOf w₀) ∧
    (∀ m₀, (s.countTimeout t).slot m₀ = s.slot m₀) ∧ (∀ m₀, (s.countTimeout t).unit m₀ = s.unit m₀) ∧
    (∀ m₀, (s.countTimeout t).port m₀ = s.port m₀) ∧ (∀ m₀, (s.countTimeout t).head m₀ = s.head m₀) ∧
    (∀ m₀, (s.countTimeout t).hears m₀ = s.hears m₀) := by
  unfold State.countTimeout; simp

/-- What `endByTimeout` leaves unchanged. -/
@[simp] theorem State.endByTimeout_frame (t : TargetId) (x : Xid) :
    (s.endByTimeout t x).rstN = s.rstN ∧ (s.endByTimeout t x).defaultRead = s.defaultRead ∧
    (s.endByTimeout t x).defaultWrite = s.defaultWrite ∧ (s.endByTimeout t x).leases = s.leases ∧
    (s.endByTimeout t x).claims = s.claims ∧ (s.endByTimeout t x).time = s.time ∧
    (s.endByTimeout t x).engine = s.engine ∧ (s.endByTimeout t x).toTarget = s.toTarget ∧
    (s.endByTimeout t x).pending = s.pending ∧ (∀ w₀, (s.endByTimeout t x).lease w₀ = s.lease w₀) ∧
    (∀ w₀, (s.endByTimeout t x).holder w₀ = s.holder w₀) ∧ (∀ w₀, (s.endByTimeout t x).queueOf w₀ = s.queueOf w₀) ∧
    (∀ m₀, (s.endByTimeout t x).slot m₀ = s.slot m₀) := by
  unfold State.endByTimeout; dsimp only; (repeat' split) <;> simp

/-- What `timeOut` leaves unchanged. -/
@[simp] theorem State.timeOut_frame (t : TargetId) (x : Xid) :
    (s.timeOut t x).rstN = s.rstN ∧ (s.timeOut t x).defaultRead = s.defaultRead ∧
    (s.timeOut t x).defaultWrite = s.defaultWrite ∧ (s.timeOut t x).claims = s.claims ∧
    (s.timeOut t x).time = s.time ∧ (s.timeOut t x).engine = s.engine ∧ (s.timeOut t x).toTarget = s.toTarget ∧
    (s.timeOut t x).pending = s.pending ∧ (∀ w₀, (s.timeOut t x).queueOf w₀ = s.queueOf w₀) ∧
    (∀ m₀, (s.timeOut t x).slot m₀ = s.slot m₀) := by
  unfold State.timeOut; simp

/-- What `countAge` leaves unchanged. -/
@[simp] theorem State.countAge_frame (t : TargetId) (x : Xid) :
    (s.countAge t x).rstN = s.rstN ∧ (s.countAge t x).defaultRead = s.defaultRead ∧
    (s.countAge t x).defaultWrite = s.defaultWrite ∧ (s.countAge t x).claims = s.claims ∧
    (s.countAge t x).time = s.time ∧ (s.countAge t x).engine = s.engine ∧ (s.countAge t x).toTarget = s.toTarget ∧
    (s.countAge t x).pending = s.pending ∧ (∀ w₀, (s.countAge t x).queueOf w₀ = s.queueOf w₀) ∧
    (∀ m₀, (s.countAge t x).slot m₀ = s.slot m₀) := by
  unfold State.countAge; dsimp only; (repeat' split) <;> simp

/-- What `countStray` leaves unchanged. -/
@[simp] theorem State.countStray_frame (t : TargetId) :
    (s.countStray t).rstN = s.rstN ∧ (s.countStray t).windows = s.windows ∧
    (s.countStray t).defaultRead = s.defaultRead ∧ (s.countStray t).defaultWrite = s.defaultWrite ∧
    (s.countStray t).leases = s.leases ∧ (s.countStray t).claims = s.claims ∧ (s.countStray t).time = s.time ∧
    (s.countStray t).engine = s.engine ∧ (s.countStray t).notices = s.notices ∧ (s.countStray t).ports = s.ports ∧
    (s.countStray t).toMaster = s.toMaster ∧ (s.countStray t).toTarget = s.toTarget ∧
    (s.countStray t).pending = s.pending ∧ (∀ w₀, (s.countStray t).window w₀ = s.window w₀) ∧
    (∀ w₀, (s.countStray t).lease w₀ = s.lease w₀) ∧ (∀ w₀, (s.countStray t).holder w₀ = s.holder w₀) ∧
    (∀ w₀, (s.countStray t).queueOf w₀ = s.queueOf w₀) ∧ (∀ m₀, (s.countStray t).slot m₀ = s.slot m₀) ∧
    (∀ m₀, (s.countStray t).unit m₀ = s.unit m₀) ∧ (∀ m₀, (s.countStray t).port m₀ = s.port m₀) ∧
    (∀ m₀, (s.countStray t).head m₀ = s.head m₀) ∧ (∀ m₀, (s.countStray t).hears m₀ = s.hears m₀) := by
  unfold State.countStray; simp

/-- What `noteAnswer` leaves unchanged. -/
@[simp] theorem State.noteAnswer_frame (t : TargetId) (a : AnswerStatus) :
    (s.noteAnswer t a).rstN = s.rstN ∧ (s.noteAnswer t a).windows = s.windows ∧
    (s.noteAnswer t a).defaultRead = s.defaultRead ∧ (s.noteAnswer t a).defaultWrite = s.defaultWrite ∧
    (s.noteAnswer t a).leases = s.leases ∧ (s.noteAnswer t a).claims = s.claims ∧ (s.noteAnswer t a).time = s.time ∧
    (s.noteAnswer t a).engine = s.engine ∧ (s.noteAnswer t a).notices = s.notices ∧
    (s.noteAnswer t a).ports = s.ports ∧ (s.noteAnswer t a).toMaster = s.toMaster ∧
    (s.noteAnswer t a).toTarget = s.toTarget ∧ (s.noteAnswer t a).pending = s.pending ∧
    (∀ w₀, (s.noteAnswer t a).window w₀ = s.window w₀) ∧ (∀ w₀, (s.noteAnswer t a).lease w₀ = s.lease w₀) ∧
    (∀ w₀, (s.noteAnswer t a).holder w₀ = s.holder w₀) ∧ (∀ w₀, (s.noteAnswer t a).queueOf w₀ = s.queueOf w₀) ∧
    (∀ m₀, (s.noteAnswer t a).slot m₀ = s.slot m₀) ∧ (∀ m₀, (s.noteAnswer t a).unit m₀ = s.unit m₀) ∧
    (∀ m₀, (s.noteAnswer t a).port m₀ = s.port m₀) ∧ (∀ m₀, (s.noteAnswer t a).head m₀ = s.head m₀) ∧
    (∀ m₀, (s.noteAnswer t a).hears m₀ = s.hears m₀) := by
  unfold State.noteAnswer; (repeat' split) <;> simp

/-- What `endByAnswer` leaves unchanged. -/
@[simp] theorem State.endByAnswer_frame (t : TargetId) (f : AnswerFrame) :
    (s.endByAnswer t f).rstN = s.rstN ∧ (s.endByAnswer t f).defaultRead = s.defaultRead ∧
    (s.endByAnswer t f).defaultWrite = s.defaultWrite ∧ (s.endByAnswer t f).leases = s.leases ∧
    (s.endByAnswer t f).claims = s.claims ∧ (s.endByAnswer t f).time = s.time ∧
    (s.endByAnswer t f).engine = s.engine ∧ (s.endByAnswer t f).toTarget = s.toTarget ∧
    (s.endByAnswer t f).pending = s.pending ∧ (∀ w₀, (s.endByAnswer t f).lease w₀ = s.lease w₀) ∧
    (∀ w₀, (s.endByAnswer t f).holder w₀ = s.holder w₀) ∧ (∀ w₀, (s.endByAnswer t f).queueOf w₀ = s.queueOf w₀) ∧
    (∀ m₀, (s.endByAnswer t f).slot m₀ = s.slot m₀) := by
  unfold State.endByAnswer; simp

/-- What `takeAnswer` leaves unchanged. -/
@[simp] theorem State.takeAnswer_frame (t : TargetId) (f : AnswerFrame) :
    (s.takeAnswer t f).rstN = s.rstN ∧ (s.takeAnswer t f).defaultRead = s.defaultRead ∧
    (s.takeAnswer t f).defaultWrite = s.defaultWrite ∧ (s.takeAnswer t f).claims = s.claims ∧
    (s.takeAnswer t f).time = s.time ∧ (s.takeAnswer t f).engine = s.engine ∧
    (s.takeAnswer t f).toTarget = s.toTarget ∧ (s.takeAnswer t f).pending = s.pending ∧
    (∀ w₀, (s.takeAnswer t f).queueOf w₀ = s.queueOf w₀) ∧ (∀ m₀, (s.takeAnswer t f).slot m₀ = s.slot m₀) := by
  unfold State.takeAnswer; (repeat' split) <;> simp

/-- What `setLink` leaves unchanged. -/
@[simp] theorem State.setLink_frame (t : TargetId) (l : TargetLink) :
    (s.setLink t l).rstN = s.rstN ∧ (s.setLink t l).windows = s.windows ∧
    (s.setLink t l).defaultRead = s.defaultRead ∧ (s.setLink t l).defaultWrite = s.defaultWrite ∧
    (s.setLink t l).leases = s.leases ∧ (s.setLink t l).claims = s.claims ∧ (s.setLink t l).time = s.time ∧
    (s.setLink t l).engine = s.engine ∧ (s.setLink t l).notices = s.notices ∧ (s.setLink t l).ports = s.ports ∧
    (s.setLink t l).toMaster = s.toMaster ∧ (s.setLink t l).toTarget = s.toTarget ∧
    (s.setLink t l).pending = s.pending ∧ (∀ w₀, (s.setLink t l).window w₀ = s.window w₀) ∧
    (∀ w₀, (s.setLink t l).lease w₀ = s.lease w₀) ∧ (∀ w₀, (s.setLink t l).holder w₀ = s.holder w₀) ∧
    (∀ w₀, (s.setLink t l).queueOf w₀ = s.queueOf w₀) ∧ (∀ m₀, (s.setLink t l).slot m₀ = s.slot m₀) ∧
    (∀ m₀, (s.setLink t l).unit m₀ = s.unit m₀) ∧ (∀ m₀, (s.setLink t l).port m₀ = s.port m₀) ∧
    (∀ m₀, (s.setLink t l).head m₀ = s.head m₀) ∧ (∀ m₀, (s.setLink t l).hears m₀ = s.hears m₀) := by
  unfold State.setLink; simp

/-- What `loseAll` leaves unchanged. -/
@[simp] theorem State.loseAll_frame (t : TargetId) :
    (s.loseAll t).rstN = s.rstN ∧ (s.loseAll t).defaultRead = s.defaultRead ∧
    (s.loseAll t).defaultWrite = s.defaultWrite ∧ (s.loseAll t).leases = s.leases ∧
    (s.loseAll t).claims = s.claims ∧ (s.loseAll t).time = s.time ∧ (s.loseAll t).engine = s.engine ∧
    (s.loseAll t).toTarget = s.toTarget ∧ (s.loseAll t).pending = s.pending ∧
    (∀ w₀, (s.loseAll t).lease w₀ = s.lease w₀) ∧ (∀ w₀, (s.loseAll t).holder w₀ = s.holder w₀) ∧
    (∀ w₀, (s.loseAll t).queueOf w₀ = s.queueOf w₀) ∧ (∀ m₀, (s.loseAll t).slot m₀ = s.slot m₀) := by
  unfold State.loseAll
  generalize allXids = l
  induction l generalizing s with
  | nil => simp
  | cons a l ih => simp only [List.foldl_cons]; simp [ih]

/-- What `linkLost` leaves unchanged. -/
@[simp] theorem State.linkLost_frame (t : TargetId) :
    (s.linkLost t).rstN = s.rstN ∧ (s.linkLost t).defaultRead = s.defaultRead ∧
    (s.linkLost t).defaultWrite = s.defaultWrite ∧ (s.linkLost t).leases = s.leases ∧
    (s.linkLost t).claims = s.claims ∧ (s.linkLost t).time = s.time ∧ (s.linkLost t).engine = s.engine ∧
    (s.linkLost t).toTarget = s.toTarget ∧ (s.linkLost t).pending = s.pending ∧
    (∀ w₀, (s.linkLost t).lease w₀ = s.lease w₀) ∧ (∀ w₀, (s.linkLost t).holder w₀ = s.holder w₀) ∧
    (∀ w₀, (s.linkLost t).queueOf w₀ = s.queueOf w₀) ∧ (∀ m₀, (s.linkLost t).slot m₀ = s.slot m₀) := by
  unfold State.linkLost; dsimp only; split <;> simp

/-- What `linkDown` leaves unchanged. -/
@[simp] theorem State.linkDown_frame (t : TargetId) :
    (s.linkDown t).rstN = s.rstN ∧ (s.linkDown t).defaultRead = s.defaultRead ∧
    (s.linkDown t).defaultWrite = s.defaultWrite ∧ (s.linkDown t).claims = s.claims ∧ (s.linkDown t).time = s.time ∧
    (s.linkDown t).engine = s.engine ∧ (s.linkDown t).toTarget = s.toTarget ∧ (s.linkDown t).pending = s.pending ∧
    (∀ w₀, (s.linkDown t).queueOf w₀ = s.queueOf w₀) ∧ (∀ m₀, (s.linkDown t).slot m₀ = s.slot m₀) := by
  unfold State.linkDown; simp

/-- What `joinRequesters` leaves unchanged. -/
@[simp] theorem State.joinRequesters_frame (t : TargetId) (m : MasterId) :
    (s.joinRequesters t m).rstN = s.rstN ∧ (s.joinRequesters t m).windows = s.windows ∧
    (s.joinRequesters t m).defaultRead = s.defaultRead ∧ (s.joinRequesters t m).defaultWrite = s.defaultWrite ∧
    (s.joinRequesters t m).leases = s.leases ∧ (s.joinRequesters t m).claims = s.claims ∧
    (s.joinRequesters t m).time = s.time ∧ (s.joinRequesters t m).engine = s.engine ∧
    (s.joinRequesters t m).notices = s.notices ∧ (s.joinRequesters t m).ports = s.ports ∧
    (s.joinRequesters t m).toMaster = s.toMaster ∧ (s.joinRequesters t m).toTarget = s.toTarget ∧
    (s.joinRequesters t m).pending = s.pending ∧ (∀ w₀, (s.joinRequesters t m).window w₀ = s.window w₀) ∧
    (∀ w₀, (s.joinRequesters t m).lease w₀ = s.lease w₀) ∧ (∀ w₀, (s.joinRequesters t m).holder w₀ = s.holder w₀) ∧
    (∀ w₀, (s.joinRequesters t m).queueOf w₀ = s.queueOf w₀) ∧ (∀ m₀, (s.joinRequesters t m).slot m₀ = s.slot m₀) ∧
    (∀ m₀, (s.joinRequesters t m).unit m₀ = s.unit m₀) ∧ (∀ m₀, (s.joinRequesters t m).port m₀ = s.port m₀) ∧
    (∀ m₀, (s.joinRequesters t m).head m₀ = s.head m₀) ∧ (∀ m₀, (s.joinRequesters t m).hears m₀ = s.hears m₀) := by
  unfold State.joinRequesters; simp

/-- What `enterFence` leaves unchanged. -/
@[simp] theorem State.enterFence_frame (t : TargetId) (m : MasterId) :
    (s.enterFence t m).rstN = s.rstN ∧ (s.enterFence t m).defaultRead = s.defaultRead ∧
    (s.enterFence t m).defaultWrite = s.defaultWrite ∧ (s.enterFence t m).leases = s.leases ∧
    (s.enterFence t m).claims = s.claims ∧ (s.enterFence t m).time = s.time ∧ (s.enterFence t m).engine = s.engine ∧
    (s.enterFence t m).toTarget = s.toTarget ∧ (s.enterFence t m).pending = s.pending ∧
    (∀ w₀, (s.enterFence t m).lease w₀ = s.lease w₀) ∧ (∀ w₀, (s.enterFence t m).holder w₀ = s.holder w₀) ∧
    (∀ w₀, (s.enterFence t m).queueOf w₀ = s.queueOf w₀) ∧ (∀ m₀, (s.enterFence t m).slot m₀ = s.slot m₀) := by
  unfold State.enterFence; (repeat' split) <;> simp

/-- What `startFence` leaves unchanged. -/
@[simp] theorem State.startFence_frame (t : TargetId) (m : MasterId) :
    (s.startFence t m).rstN = s.rstN ∧ (s.startFence t m).defaultRead = s.defaultRead ∧
    (s.startFence t m).defaultWrite = s.defaultWrite ∧ (s.startFence t m).claims = s.claims ∧
    (s.startFence t m).time = s.time ∧ (s.startFence t m).engine = s.engine ∧
    (s.startFence t m).toTarget = s.toTarget ∧ (s.startFence t m).pending = s.pending ∧
    (∀ w₀, (s.startFence t m).queueOf w₀ = s.queueOf w₀) ∧ (∀ m₀, (s.startFence t m).slot m₀ = s.slot m₀) := by
  unfold State.startFence; simp

/-- What `restore` leaves unchanged. -/
@[simp] theorem State.restore_frame (t : TargetId) (st : TargetState) :
    (s.restore t st).rstN = s.rstN ∧ (s.restore t st).windows = s.windows ∧
    (s.restore t st).defaultRead = s.defaultRead ∧ (s.restore t st).defaultWrite = s.defaultWrite ∧
    (s.restore t st).leases = s.leases ∧ (s.restore t st).claims = s.claims ∧ (s.restore t st).time = s.time ∧
    (s.restore t st).engine = s.engine ∧ (s.restore t st).ports = s.ports ∧ (s.restore t st).toMaster = s.toMaster ∧
    (s.restore t st).toTarget = s.toTarget ∧ (s.restore t st).pending = s.pending ∧
    (∀ w₀, (s.restore t st).window w₀ = s.window w₀) ∧ (∀ w₀, (s.restore t st).lease w₀ = s.lease w₀) ∧
    (∀ w₀, (s.restore t st).holder w₀ = s.holder w₀) ∧ (∀ w₀, (s.restore t st).queueOf w₀ = s.queueOf w₀) ∧
    (∀ m₀, (s.restore t st).slot m₀ = s.slot m₀) ∧ (∀ m₀, (s.restore t st).port m₀ = s.port m₀) ∧
    (∀ m₀, (s.restore t st).head m₀ = s.head m₀) ∧ (∀ m₀, (s.restore t st).hears m₀ = s.hears m₀) := by
  unfold State.restore; simp

/-- What `forward` leaves unchanged. -/
@[simp] theorem State.forward_frame (t : TargetId) (x : Xid) (m : MasterId) (r : Request) (o : OutRecord) :
    (s.forward t x m r o).rstN = s.rstN ∧ (s.forward t x m r o).windows = s.windows ∧
    (s.forward t x m r o).defaultRead = s.defaultRead ∧ (s.forward t x m r o).defaultWrite = s.defaultWrite ∧
    (s.forward t x m r o).leases = s.leases ∧ (s.forward t x m r o).claims = s.claims ∧
    (s.forward t x m r o).time = s.time ∧ (s.forward t x m r o).engine = s.engine ∧
    (s.forward t x m r o).notices = s.notices ∧ (s.forward t x m r o).ports = s.ports ∧
    (s.forward t x m r o).toMaster = s.toMaster ∧ (s.forward t x m r o).pending = s.pending ∧
    (∀ w₀, (s.forward t x m r o).window w₀ = s.window w₀) ∧ (∀ w₀, (s.forward t x m r o).lease w₀ = s.lease w₀) ∧
    (∀ w₀, (s.forward t x m r o).holder w₀ = s.holder w₀) ∧
    (∀ w₀, (s.forward t x m r o).queueOf w₀ = s.queueOf w₀) ∧ (∀ m₀, (s.forward t x m r o).slot m₀ = s.slot m₀) ∧
    (∀ m₀, (s.forward t x m r o).unit m₀ = s.unit m₀) ∧ (∀ m₀, (s.forward t x m r o).port m₀ = s.port m₀) ∧
    (∀ m₀, (s.forward t x m r o).head m₀ = s.head m₀) ∧ (∀ m₀, (s.forward t x m r o).hears m₀ = s.hears m₀) := by
  unfold State.forward; simp

/-- What `holdMirror` leaves unchanged. -/
@[simp] theorem State.holdMirror_frame (t : TargetId) (r : MirrorRecord) :
    (s.holdMirror t r).rstN = s.rstN ∧ (s.holdMirror t r).windows = s.windows ∧
    (s.holdMirror t r).defaultRead = s.defaultRead ∧ (s.holdMirror t r).defaultWrite = s.defaultWrite ∧
    (s.holdMirror t r).leases = s.leases ∧ (s.holdMirror t r).claims = s.claims ∧ (s.holdMirror t r).time = s.time ∧
    (s.holdMirror t r).engine = s.engine ∧ (s.holdMirror t r).notices = s.notices ∧
    (s.holdMirror t r).ports = s.ports ∧ (s.holdMirror t r).toMaster = s.toMaster ∧
    (s.holdMirror t r).toTarget = s.toTarget ∧ (s.holdMirror t r).pending = s.pending ∧
    (∀ w₀, (s.holdMirror t r).window w₀ = s.window w₀) ∧ (∀ w₀, (s.holdMirror t r).lease w₀ = s.lease w₀) ∧
    (∀ w₀, (s.holdMirror t r).holder w₀ = s.holder w₀) ∧ (∀ w₀, (s.holdMirror t r).queueOf w₀ = s.queueOf w₀) ∧
    (∀ m₀, (s.holdMirror t r).slot m₀ = s.slot m₀) ∧ (∀ m₀, (s.holdMirror t r).unit m₀ = s.unit m₀) ∧
    (∀ m₀, (s.holdMirror t r).port m₀ = s.port m₀) ∧ (∀ m₀, (s.holdMirror t r).head m₀ = s.head m₀) ∧
    (∀ m₀, (s.holdMirror t r).hears m₀ = s.hears m₀) := by
  unfold State.holdMirror; simp

/-- What `grantOne` leaves unchanged. -/
@[simp] theorem State.grantOne_frame (t : TargetId) (x : Xid) (m : MasterId) (r : Request) (b : Binding) :
    (s.grantOne t x m r b).rstN = s.rstN ∧ (s.grantOne t x m r b).windows = s.windows ∧
    (s.grantOne t x m r b).defaultRead = s.defaultRead ∧ (s.grantOne t x m r b).defaultWrite = s.defaultWrite ∧
    (s.grantOne t x m r b).leases = s.leases ∧ (s.grantOne t x m r b).claims = s.claims ∧
    (s.grantOne t x m r b).time = s.time ∧ (s.grantOne t x m r b).engine = s.engine ∧
    (s.grantOne t x m r b).notices = s.notices ∧ (s.grantOne t x m r b).toMaster = s.toMaster ∧
    (s.grantOne t x m r b).pending = s.pending ∧ (∀ w₀, (s.grantOne t x m r b).window w₀ = s.window w₀) ∧
    (∀ w₀, (s.grantOne t x m r b).lease w₀ = s.lease w₀) ∧ (∀ w₀, (s.grantOne t x m r b).holder w₀ = s.holder w₀) ∧
    (∀ w₀, (s.grantOne t x m r b).queueOf w₀ = s.queueOf w₀) ∧ (∀ m₀, (s.grantOne t x m r b).slot m₀ = s.slot m₀) ∧
    (∀ m₀, (s.grantOne t x m r b).unit m₀ = s.unit m₀) := by
  unfold State.grantOne; dsimp only; (repeat' split) <;> simp

/-- What `grantBoth` leaves unchanged. -/
@[simp] theorem State.grantBoth_frame (m : MasterId) (r : Request) (b : Binding) :
    (s.grantBoth m r b).rstN = s.rstN ∧ (s.grantBoth m r b).windows = s.windows ∧
    (s.grantBoth m r b).defaultRead = s.defaultRead ∧ (s.grantBoth m r b).defaultWrite = s.defaultWrite ∧
    (s.grantBoth m r b).leases = s.leases ∧ (s.grantBoth m r b).claims = s.claims ∧
    (s.grantBoth m r b).time = s.time ∧ (s.grantBoth m r b).engine = s.engine ∧
    (s.grantBoth m r b).notices = s.notices ∧ (s.grantBoth m r b).toMaster = s.toMaster ∧
    (s.grantBoth m r b).pending = s.pending ∧ (∀ w₀, (s.grantBoth m r b).window w₀ = s.window w₀) ∧
    (∀ w₀, (s.grantBoth m r b).lease w₀ = s.lease w₀) ∧ (∀ w₀, (s.grantBoth m r b).holder w₀ = s.holder w₀) ∧
    (∀ w₀, (s.grantBoth m r b).queueOf w₀ = s.queueOf w₀) ∧ (∀ m₀, (s.grantBoth m r b).slot m₀ = s.slot m₀) ∧
    (∀ m₀, (s.grantBoth m r b).unit m₀ = s.unit m₀) := by
  unfold State.grantBoth; dsimp only; (repeat' split) <;> simp

/-- What `xidGrant` leaves unchanged. -/
@[simp] theorem State.xidGrant_frame (t : TargetId) :
    (s.xidGrant t).rstN = s.rstN ∧ (s.xidGrant t).windows = s.windows ∧ (s.xidGrant t).defaultRead = s.defaultRead ∧
    (s.xidGrant t).defaultWrite = s.defaultWrite ∧ (s.xidGrant t).leases = s.leases ∧
    (s.xidGrant t).claims = s.claims ∧ (s.xidGrant t).time = s.time ∧ (s.xidGrant t).engine = s.engine ∧
    (s.xidGrant t).notices = s.notices ∧ (s.xidGrant t).toMaster = s.toMaster ∧ (s.xidGrant t).pending = s.pending ∧
    (∀ w₀, (s.xidGrant t).window w₀ = s.window w₀) ∧ (∀ w₀, (s.xidGrant t).lease w₀ = s.lease w₀) ∧
    (∀ w₀, (s.xidGrant t).holder w₀ = s.holder w₀) ∧ (∀ w₀, (s.xidGrant t).queueOf w₀ = s.queueOf w₀) ∧
    (∀ m₀, (s.xidGrant t).slot m₀ = s.slot m₀) ∧ (∀ m₀, (s.xidGrant t).unit m₀ = s.unit m₀) := by
  unfold State.xidGrant; (repeat' split) <;> simp

/-- What `mirrorXidGrant` leaves unchanged. -/
@[simp] theorem State.mirrorXidGrant_frame (t : TargetId) :
    (s.mirrorXidGrant t).rstN = s.rstN ∧ (s.mirrorXidGrant t).windows = s.windows ∧
    (s.mirrorXidGrant t).defaultRead = s.defaultRead ∧ (s.mirrorXidGrant t).defaultWrite = s.defaultWrite ∧
    (s.mirrorXidGrant t).leases = s.leases ∧ (s.mirrorXidGrant t).claims = s.claims ∧
    (s.mirrorXidGrant t).time = s.time ∧ (s.mirrorXidGrant t).engine = s.engine ∧
    (s.mirrorXidGrant t).notices = s.notices ∧ (s.mirrorXidGrant t).toMaster = s.toMaster ∧
    (s.mirrorXidGrant t).pending = s.pending ∧ (∀ w₀, (s.mirrorXidGrant t).window w₀ = s.window w₀) ∧
    (∀ w₀, (s.mirrorXidGrant t).lease w₀ = s.lease w₀) ∧ (∀ w₀, (s.mirrorXidGrant t).holder w₀ = s.holder w₀) ∧
    (∀ w₀, (s.mirrorXidGrant t).queueOf w₀ = s.queueOf w₀) ∧ (∀ m₀, (s.mirrorXidGrant t).slot m₀ = s.slot m₀) ∧
    (∀ m₀, (s.mirrorXidGrant t).unit m₀ = s.unit m₀) := by
  unfold State.mirrorXidGrant; (repeat' split) <;> simp

/-- What `setSetup` leaves unchanged. -/
@[simp] theorem State.setSetup_frame (r : SetupRight) :
    (s.setSetup r).rstN = s.rstN ∧ (s.setSetup r).windows = s.windows ∧ (s.setSetup r).defaultRead = s.defaultRead ∧
    (s.setSetup r).defaultWrite = s.defaultWrite ∧ (s.setSetup r).leases = s.leases ∧
    (s.setSetup r).claims = s.claims ∧ (s.setSetup r).time = s.time ∧ (s.setSetup r).targets = s.targets ∧
    (s.setSetup r).notices = s.notices ∧ (s.setSetup r).ports = s.ports ∧ (s.setSetup r).toMaster = s.toMaster ∧
    (s.setSetup r).toTarget = s.toTarget ∧ (s.setSetup r).pending = s.pending ∧
    (∀ w₀, (s.setSetup r).window w₀ = s.window w₀) ∧ (∀ w₀, (s.setSetup r).lease w₀ = s.lease w₀) ∧
    (∀ w₀, (s.setSetup r).holder w₀ = s.holder w₀) ∧ (∀ w₀, (s.setSetup r).queueOf w₀ = s.queueOf w₀) ∧
    (∀ t₀, (s.setSetup r).target t₀ = s.target t₀) ∧ (∀ m₀, (s.setSetup r).unit m₀ = s.unit m₀) ∧
    (∀ m₀, (s.setSetup r).port m₀ = s.port m₀) ∧ (∀ m₀, (s.setSetup r).head m₀ = s.head m₀) ∧
    (∀ m₀, (s.setSetup r).hears m₀ = s.hears m₀) := by
  unfold State.setSetup; simp

/-- What `endTake` leaves unchanged. -/
@[simp] theorem State.endTake_frame (m : MasterId) (r : Reply) :
    (s.endTake m r).rstN = s.rstN ∧ (s.endTake m r).windows = s.windows ∧
    (s.endTake m r).defaultRead = s.defaultRead ∧ (s.endTake m r).defaultWrite = s.defaultWrite ∧
    (s.endTake m r).leases = s.leases ∧ (s.endTake m r).claims = s.claims ∧ (s.endTake m r).time = s.time ∧
    (s.endTake m r).targets = s.targets ∧ (s.endTake m r).notices = s.notices ∧ (s.endTake m r).ports = s.ports ∧
    (s.endTake m r).toMaster = s.toMaster ∧ (s.endTake m r).toTarget = s.toTarget ∧
    (s.endTake m r).pending = s.pending ∧ (∀ w₀, (s.endTake m r).window w₀ = s.window w₀) ∧
    (∀ w₀, (s.endTake m r).lease w₀ = s.lease w₀) ∧ (∀ w₀, (s.endTake m r).holder w₀ = s.holder w₀) ∧
    (∀ w₀, (s.endTake m r).queueOf w₀ = s.queueOf w₀) ∧ (∀ t₀, (s.endTake m r).target t₀ = s.target t₀) ∧
    (∀ m₀, (s.endTake m r).unit m₀ = s.unit m₀) ∧ (∀ m₀, (s.endTake m r).port m₀ = s.port m₀) ∧
    (∀ m₀, (s.endTake m r).head m₀ = s.head m₀) ∧ (∀ m₀, (s.endTake m r).hears m₀ = s.hears m₀) := by
  unfold State.endTake; simp

/-- What `deliver` leaves unchanged. -/
@[simp] theorem State.deliver_frame (m : MasterId) (c : Command) :
    (s.deliver m c).rstN = s.rstN ∧ (s.deliver m c).windows = s.windows ∧
    (s.deliver m c).defaultRead = s.defaultRead ∧ (s.deliver m c).defaultWrite = s.defaultWrite ∧
    (s.deliver m c).leases = s.leases ∧ (s.deliver m c).claims = s.claims ∧ (s.deliver m c).time = s.time ∧
    (s.deliver m c).targets = s.targets ∧ (s.deliver m c).notices = s.notices ∧ (s.deliver m c).ports = s.ports ∧
    (s.deliver m c).toMaster = s.toMaster ∧ (s.deliver m c).toTarget = s.toTarget ∧
    (s.deliver m c).pending = s.pending ∧ (∀ w₀, (s.deliver m c).window w₀ = s.window w₀) ∧
    (∀ w₀, (s.deliver m c).lease w₀ = s.lease w₀) ∧ (∀ w₀, (s.deliver m c).holder w₀ = s.holder w₀) ∧
    (∀ w₀, (s.deliver m c).queueOf w₀ = s.queueOf w₀) ∧ (∀ t₀, (s.deliver m c).target t₀ = s.target t₀) ∧
    (∀ m₀, (s.deliver m c).unit m₀ = s.unit m₀) ∧ (∀ m₀, (s.deliver m c).port m₀ = s.port m₀) ∧
    (∀ m₀, (s.deliver m c).head m₀ = s.head m₀) ∧ (∀ m₀, (s.deliver m c).hears m₀ = s.hears m₀) := by
  unfold State.deliver; simp

/-- What a command of the engine leaves unchanged. -/
@[simp] theorem State.engineEffect_frame (c : Command) (m : MasterId) (a : Args) :
    ((s.engineEffect c m a).1).rstN = s.rstN ∧ ((s.engineEffect c m a).1).windows = s.windows ∧
    ((s.engineEffect c m a).1).defaultRead = s.defaultRead ∧
    ((s.engineEffect c m a).1).defaultWrite = s.defaultWrite ∧ ((s.engineEffect c m a).1).leases = s.leases ∧
    ((s.engineEffect c m a).1).claims = s.claims ∧ ((s.engineEffect c m a).1).time = s.time ∧
    ((s.engineEffect c m a).1).targets = s.targets ∧ ((s.engineEffect c m a).1).ports = s.ports ∧
    ((s.engineEffect c m a).1).toMaster = s.toMaster ∧ ((s.engineEffect c m a).1).toTarget = s.toTarget ∧
    ((s.engineEffect c m a).1).pending = s.pending ∧ (∀ w₀, ((s.engineEffect c m a).1).window w₀ = s.window w₀) ∧
    (∀ w₀, ((s.engineEffect c m a).1).lease w₀ = s.lease w₀) ∧
    (∀ w₀, ((s.engineEffect c m a).1).holder w₀ = s.holder w₀) ∧
    (∀ w₀, ((s.engineEffect c m a).1).queueOf w₀ = s.queueOf w₀) ∧
    (∀ t₀, ((s.engineEffect c m a).1).target t₀ = s.target t₀) ∧
    (∀ m₀, ((s.engineEffect c m a).1).port m₀ = s.port m₀) ∧
    (∀ m₀, ((s.engineEffect c m a).1).head m₀ = s.head m₀) ∧
    (∀ m₀, ((s.engineEffect c m a).1).hears m₀ = s.hears m₀) := by
  unfold State.engineEffect State.takeSetup State.handSetup State.querySetup; (repeat' split) <;> simp

/-- What `takeSlot` leaves unchanged. -/
@[simp] theorem State.takeSlot_frame (m : MasterId) :
    (s.takeSlot m).rstN = s.rstN ∧ (s.takeSlot m).windows = s.windows ∧ (s.takeSlot m).defaultRead = s.defaultRead ∧
    (s.takeSlot m).defaultWrite = s.defaultWrite ∧ (s.takeSlot m).leases = s.leases ∧
    (s.takeSlot m).claims = s.claims ∧ (s.takeSlot m).time = s.time ∧ (s.takeSlot m).targets = s.targets ∧
    (s.takeSlot m).ports = s.ports ∧ (s.takeSlot m).toMaster = s.toMaster ∧ (s.takeSlot m).toTarget = s.toTarget ∧
    (s.takeSlot m).pending = s.pending ∧ (∀ w₀, (s.takeSlot m).window w₀ = s.window w₀) ∧
    (∀ w₀, (s.takeSlot m).lease w₀ = s.lease w₀) ∧ (∀ w₀, (s.takeSlot m).holder w₀ = s.holder w₀) ∧
    (∀ w₀, (s.takeSlot m).queueOf w₀ = s.queueOf w₀) ∧ (∀ t₀, (s.takeSlot m).target t₀ = s.target t₀) ∧
    (∀ m₀, (s.takeSlot m).port m₀ = s.port m₀) ∧ (∀ m₀, (s.takeSlot m).head m₀ = s.head m₀) ∧
    (∀ m₀, (s.takeSlot m).hears m₀ = s.hears m₀) := by
  unfold State.takeSlot; dsimp only; (repeat' split) <;> simp

/-- What `markTag` leaves unchanged. -/
@[simp] theorem State.markTag_frame (m : MasterId) (g : Tag) :
    (s.markTag m g).rstN = s.rstN ∧ (s.markTag m g).windows = s.windows ∧
    (s.markTag m g).defaultRead = s.defaultRead ∧ (s.markTag m g).defaultWrite = s.defaultWrite ∧
    (s.markTag m g).leases = s.leases ∧ (s.markTag m g).claims = s.claims ∧ (s.markTag m g).time = s.time ∧
    (s.markTag m g).targets = s.targets ∧ (s.markTag m g).engine = s.engine ∧ (s.markTag m g).notices = s.notices ∧
    (s.markTag m g).toMaster = s.toMaster ∧ (s.markTag m g).toTarget = s.toTarget ∧
    (s.markTag m g).pending = s.pending ∧ (∀ w₀, (s.markTag m g).window w₀ = s.window w₀) ∧
    (∀ w₀, (s.markTag m g).lease w₀ = s.lease w₀) ∧ (∀ w₀, (s.markTag m g).holder w₀ = s.holder w₀) ∧
    (∀ w₀, (s.markTag m g).queueOf w₀ = s.queueOf w₀) ∧ (∀ t₀, (s.markTag m g).target t₀ = s.target t₀) ∧
    (∀ m₀, (s.markTag m g).slot m₀ = s.slot m₀) ∧ (∀ m₀, (s.markTag m g).unit m₀ = s.unit m₀) := by
  unfold State.markTag; simp

/-- What `enqueue` leaves unchanged. -/
@[simp] theorem State.enqueue_frame (m : MasterId) (r : Request) :
    (s.enqueue m r).rstN = s.rstN ∧ (s.enqueue m r).windows = s.windows ∧
    (s.enqueue m r).defaultRead = s.defaultRead ∧ (s.enqueue m r).defaultWrite = s.defaultWrite ∧
    (s.enqueue m r).leases = s.leases ∧ (s.enqueue m r).claims = s.claims ∧ (s.enqueue m r).time = s.time ∧
    (s.enqueue m r).targets = s.targets ∧ (s.enqueue m r).engine = s.engine ∧ (s.enqueue m r).notices = s.notices ∧
    (s.enqueue m r).toMaster = s.toMaster ∧ (s.enqueue m r).toTarget = s.toTarget ∧
    (s.enqueue m r).pending = s.pending ∧ (∀ w₀, (s.enqueue m r).window w₀ = s.window w₀) ∧
    (∀ w₀, (s.enqueue m r).lease w₀ = s.lease w₀) ∧ (∀ w₀, (s.enqueue m r).holder w₀ = s.holder w₀) ∧
    (∀ w₀, (s.enqueue m r).queueOf w₀ = s.queueOf w₀) ∧ (∀ t₀, (s.enqueue m r).target t₀ = s.target t₀) ∧
    (∀ m₀, (s.enqueue m r).slot m₀ = s.slot m₀) ∧ (∀ m₀, (s.enqueue m r).unit m₀ = s.unit m₀) := by
  unfold State.enqueue; simp

/-- What `takeRequest` leaves unchanged. -/
@[simp] theorem State.takeRequest_frame (m : MasterId) (f : RequestFrame) :
    (s.takeRequest m f).rstN = s.rstN ∧ (s.takeRequest m f).windows = s.windows ∧
    (s.takeRequest m f).defaultRead = s.defaultRead ∧ (s.takeRequest m f).defaultWrite = s.defaultWrite ∧
    (s.takeRequest m f).leases = s.leases ∧ (s.takeRequest m f).claims = s.claims ∧
    (s.takeRequest m f).time = s.time ∧ (s.takeRequest m f).targets = s.targets ∧
    (s.takeRequest m f).engine = s.engine ∧ (s.takeRequest m f).toTarget = s.toTarget ∧
    (s.takeRequest m f).pending = s.pending ∧ (∀ w₀, (s.takeRequest m f).window w₀ = s.window w₀) ∧
    (∀ w₀, (s.takeRequest m f).lease w₀ = s.lease w₀) ∧ (∀ w₀, (s.takeRequest m f).holder w₀ = s.holder w₀) ∧
    (∀ w₀, (s.takeRequest m f).queueOf w₀ = s.queueOf w₀) ∧ (∀ t₀, (s.takeRequest m f).target t₀ = s.target t₀) ∧
    (∀ m₀, (s.takeRequest m f).slot m₀ = s.slot m₀) := by
  unfold State.takeRequest; (repeat' split) <;> simp

/-- What `takeOwnPart` leaves unchanged. -/
@[simp] theorem State.takeOwnPart_frame (m : MasterId) :
    (s.takeOwnPart m).rstN = s.rstN ∧ (s.takeOwnPart m).defaultRead = s.defaultRead ∧
    (s.takeOwnPart m).defaultWrite = s.defaultWrite ∧ (s.takeOwnPart m).leases = s.leases ∧
    (s.takeOwnPart m).claims = s.claims ∧ (s.takeOwnPart m).time = s.time ∧ (s.takeOwnPart m).targets = s.targets ∧
    (s.takeOwnPart m).engine = s.engine ∧ (s.takeOwnPart m).toMaster = s.toMaster ∧
    (s.takeOwnPart m).toTarget = s.toTarget ∧ (s.takeOwnPart m).pending = s.pending ∧
    (∀ w₀, (s.takeOwnPart m).lease w₀ = s.lease w₀) ∧ (∀ w₀, (s.takeOwnPart m).holder w₀ = s.holder w₀) ∧
    (∀ w₀, (s.takeOwnPart m).queueOf w₀ = s.queueOf w₀) ∧ (∀ t₀, (s.takeOwnPart m).target t₀ = s.target t₀) ∧
    (∀ m₀, (s.takeOwnPart m).slot m₀ = s.slot m₀) := by
  unfold State.takeOwnPart
  have h : ∀ (l : List WindowId) (s : State), (l.foldl State.countFalls s).rstN = s.rstN ∧
      (l.foldl State.countFalls s).defaultRead = s.defaultRead ∧ (l.foldl State.countFalls s).defaultWrite = s.defaultWrite ∧
      (l.foldl State.countFalls s).leases = s.leases ∧ (l.foldl State.countFalls s).claims = s.claims ∧
      (l.foldl State.countFalls s).time = s.time ∧ (l.foldl State.countFalls s).targets = s.targets ∧
      (l.foldl State.countFalls s).engine = s.engine ∧ (l.foldl State.countFalls s).toMaster = s.toMaster ∧
      (l.foldl State.countFalls s).toTarget = s.toTarget ∧ (l.foldl State.countFalls s).pending = s.pending := by
    intro l
    induction l with
    | nil => simp
    | cons a l ih => intro s; simp only [List.foldl_cons]; simp [ih]
  simp [h, State.lease, State.target, State.slot, State.queueOf, State.holder]

/-- What `startCleanup` leaves unchanged. -/
@[simp] theorem State.startCleanup_frame (m : MasterId) :
    (s.startCleanup m).rstN = s.rstN ∧ (s.startCleanup m).defaultRead = s.defaultRead ∧
    (s.startCleanup m).defaultWrite = s.defaultWrite ∧ (s.startCleanup m).claims = s.claims ∧
    (s.startCleanup m).time = s.time ∧ (s.startCleanup m).engine = s.engine ∧
    (s.startCleanup m).toTarget = s.toTarget ∧ (s.startCleanup m).pending = s.pending ∧
    (∀ w₀, (s.startCleanup m).queueOf w₀ = s.queueOf w₀) ∧ (∀ m₀, (s.startCleanup m).slot m₀ = s.slot m₀) := by
  unfold State.startCleanup; simp

/-- What `lowerPort` leaves unchanged. -/
@[simp] theorem State.lowerPort_frame (m : MasterId) :
    (s.lowerPort m).rstN = s.rstN ∧ (s.lowerPort m).windows = s.windows ∧
    (s.lowerPort m).defaultRead = s.defaultRead ∧ (s.lowerPort m).defaultWrite = s.defaultWrite ∧
    (s.lowerPort m).leases = s.leases ∧ (s.lowerPort m).claims = s.claims ∧ (s.lowerPort m).time = s.time ∧
    (s.lowerPort m).targets = s.targets ∧ (s.lowerPort m).engine = s.engine ∧ (s.lowerPort m).notices = s.notices ∧
    (s.lowerPort m).toMaster = s.toMaster ∧ (s.lowerPort m).toTarget = s.toTarget ∧
    (s.lowerPort m).pending = s.pending ∧ (∀ w₀, (s.lowerPort m).window w₀ = s.window w₀) ∧
    (∀ w₀, (s.lowerPort m).lease w₀ = s.lease w₀) ∧ (∀ w₀, (s.lowerPort m).holder w₀ = s.holder w₀) ∧
    (∀ w₀, (s.lowerPort m).queueOf w₀ = s.queueOf w₀) ∧ (∀ t₀, (s.lowerPort m).target t₀ = s.target t₀) ∧
    (∀ m₀, (s.lowerPort m).slot m₀ = s.slot m₀) ∧ (∀ m₀, (s.lowerPort m).unit m₀ = s.unit m₀) := by
  unfold State.lowerPort; simp

/-- What `partTaken` leaves unchanged. -/
@[simp] theorem State.partTaken_frame (m : MasterId) (b : CleanupBlock) :
    (s.partTaken m b).rstN = s.rstN ∧ (s.partTaken m b).windows = s.windows ∧
    (s.partTaken m b).defaultRead = s.defaultRead ∧ (s.partTaken m b).defaultWrite = s.defaultWrite ∧
    (s.partTaken m b).leases = s.leases ∧ (s.partTaken m b).claims = s.claims ∧ (s.partTaken m b).time = s.time ∧
    (s.partTaken m b).targets = s.targets ∧ (s.partTaken m b).engine = s.engine ∧
    (s.partTaken m b).notices = s.notices ∧ (s.partTaken m b).toMaster = s.toMaster ∧
    (s.partTaken m b).toTarget = s.toTarget ∧ (s.partTaken m b).pending = s.pending ∧
    (∀ w₀, (s.partTaken m b).window w₀ = s.window w₀) ∧ (∀ w₀, (s.partTaken m b).lease w₀ = s.lease w₀) ∧
    (∀ w₀, (s.partTaken m b).holder w₀ = s.holder w₀) ∧ (∀ w₀, (s.partTaken m b).queueOf w₀ = s.queueOf w₀) ∧
    (∀ t₀, (s.partTaken m b).target t₀ = s.target t₀) ∧ (∀ m₀, (s.partTaken m b).slot m₀ = s.slot m₀) ∧
    (∀ m₀, (s.partTaken m b).unit m₀ = s.unit m₀) := by
  unfold State.partTaken; simp

/-- What `cleanEngine` leaves unchanged. -/
@[simp] theorem State.cleanEngine_frame (m : MasterId) :
    (s.cleanEngine m).rstN = s.rstN ∧ (s.cleanEngine m).windows = s.windows ∧
    (s.cleanEngine m).defaultRead = s.defaultRead ∧ (s.cleanEngine m).defaultWrite = s.defaultWrite ∧
    (s.cleanEngine m).leases = s.leases ∧ (s.cleanEngine m).claims = s.claims ∧ (s.cleanEngine m).time = s.time ∧
    (s.cleanEngine m).targets = s.targets ∧ (s.cleanEngine m).notices = s.notices ∧
    (s.cleanEngine m).ports = s.ports ∧ (s.cleanEngine m).toMaster = s.toMaster ∧
    (s.cleanEngine m).toTarget = s.toTarget ∧ (s.cleanEngine m).pending = s.pending ∧
    (∀ w₀, (s.cleanEngine m).window w₀ = s.window w₀) ∧ (∀ w₀, (s.cleanEngine m).lease w₀ = s.lease w₀) ∧
    (∀ w₀, (s.cleanEngine m).holder w₀ = s.holder w₀) ∧ (∀ w₀, (s.cleanEngine m).queueOf w₀ = s.queueOf w₀) ∧
    (∀ t₀, (s.cleanEngine m).target t₀ = s.target t₀) ∧ (∀ m₀, (s.cleanEngine m).unit m₀ = s.unit m₀) ∧
    (∀ m₀, (s.cleanEngine m).port m₀ = s.port m₀) ∧ (∀ m₀, (s.cleanEngine m).head m₀ = s.head m₀) ∧
    (∀ m₀, (s.cleanEngine m).hears m₀ = s.hears m₀) := by
  unfold State.cleanEngine; simp

/-- What `cleanNotices` leaves unchanged. -/
@[simp] theorem State.cleanNotices_frame (m : MasterId) :
    (s.cleanNotices m).rstN = s.rstN ∧ (s.cleanNotices m).windows = s.windows ∧
    (s.cleanNotices m).defaultRead = s.defaultRead ∧ (s.cleanNotices m).defaultWrite = s.defaultWrite ∧
    (s.cleanNotices m).leases = s.leases ∧ (s.cleanNotices m).claims = s.claims ∧ (s.cleanNotices m).time = s.time ∧
    (s.cleanNotices m).targets = s.targets ∧ (s.cleanNotices m).engine = s.engine ∧
    (s.cleanNotices m).ports = s.ports ∧ (s.cleanNotices m).toMaster = s.toMaster ∧
    (s.cleanNotices m).toTarget = s.toTarget ∧ (s.cleanNotices m).pending = s.pending ∧
    (∀ w₀, (s.cleanNotices m).window w₀ = s.window w₀) ∧ (∀ w₀, (s.cleanNotices m).lease w₀ = s.lease w₀) ∧
    (∀ w₀, (s.cleanNotices m).holder w₀ = s.holder w₀) ∧ (∀ w₀, (s.cleanNotices m).queueOf w₀ = s.queueOf w₀) ∧
    (∀ t₀, (s.cleanNotices m).target t₀ = s.target t₀) ∧ (∀ m₀, (s.cleanNotices m).slot m₀ = s.slot m₀) ∧
    (∀ m₀, (s.cleanNotices m).port m₀ = s.port m₀) ∧ (∀ m₀, (s.cleanNotices m).head m₀ = s.head m₀) ∧
    (∀ m₀, (s.cleanNotices m).hears m₀ = s.hears m₀) := by
  unfold State.cleanNotices; simp

/-- What `dropLease` leaves unchanged. -/
@[simp] theorem State.dropLease_frame (m : MasterId) (w : WindowId) :
    (s.dropLease m w).rstN = s.rstN ∧ (s.dropLease m w).windows = s.windows ∧
    (s.dropLease m w).defaultRead = s.defaultRead ∧ (s.dropLease m w).defaultWrite = s.defaultWrite ∧
    (s.dropLease m w).time = s.time ∧ (s.dropLease m w).targets = s.targets ∧ (s.dropLease m w).engine = s.engine ∧
    (s.dropLease m w).ports = s.ports ∧ (s.dropLease m w).toMaster = s.toMaster ∧
    (s.dropLease m w).toTarget = s.toTarget ∧ (s.dropLease m w).pending = s.pending ∧
    (∀ w₀, (s.dropLease m w).window w₀ = s.window w₀) ∧ (∀ t₀, (s.dropLease m w).target t₀ = s.target t₀) ∧
    (∀ m₀, (s.dropLease m w).slot m₀ = s.slot m₀) ∧ (∀ m₀, (s.dropLease m w).port m₀ = s.port m₀) ∧
    (∀ m₀, (s.dropLease m w).head m₀ = s.head m₀) ∧ (∀ m₀, (s.dropLease m w).hears m₀ = s.hears m₀) := by
  unfold State.dropLease; (repeat' split) <;> simp

/-- What `cleanLeases` leaves unchanged. -/
@[simp] theorem State.cleanLeases_frame (m : MasterId) :
    (s.cleanLeases m).rstN = s.rstN ∧ (s.cleanLeases m).windows = s.windows ∧
    (s.cleanLeases m).defaultRead = s.defaultRead ∧ (s.cleanLeases m).defaultWrite = s.defaultWrite ∧
    (s.cleanLeases m).time = s.time ∧ (s.cleanLeases m).targets = s.targets ∧ (s.cleanLeases m).engine = s.engine ∧
    (s.cleanLeases m).ports = s.ports ∧ (s.cleanLeases m).toMaster = s.toMaster ∧
    (s.cleanLeases m).toTarget = s.toTarget ∧ (s.cleanLeases m).pending = s.pending ∧
    (∀ w₀, (s.cleanLeases m).window w₀ = s.window w₀) ∧ (∀ t₀, (s.cleanLeases m).target t₀ = s.target t₀) ∧
    (∀ m₀, (s.cleanLeases m).slot m₀ = s.slot m₀) ∧ (∀ m₀, (s.cleanLeases m).port m₀ = s.port m₀) ∧
    (∀ m₀, (s.cleanLeases m).head m₀ = s.head m₀) ∧ (∀ m₀, (s.cleanLeases m).hears m₀ = s.hears m₀) := by
  unfold State.cleanLeases
  have h : ∀ (l : List WindowId) (s : State), (l.foldl (fun s w => s.dropLease m w) s).rstN = s.rstN ∧
      (l.foldl (fun s w => s.dropLease m w) s).windows = s.windows ∧
      (l.foldl (fun s w => s.dropLease m w) s).defaultRead = s.defaultRead ∧
      (l.foldl (fun s w => s.dropLease m w) s).defaultWrite = s.defaultWrite ∧
      (l.foldl (fun s w => s.dropLease m w) s).time = s.time ∧
      (l.foldl (fun s w => s.dropLease m w) s).targets = s.targets ∧
      (l.foldl (fun s w => s.dropLease m w) s).engine = s.engine ∧
      (l.foldl (fun s w => s.dropLease m w) s).ports = s.ports ∧
      (l.foldl (fun s w => s.dropLease m w) s).toMaster = s.toMaster ∧
      (l.foldl (fun s w => s.dropLease m w) s).toTarget = s.toTarget ∧
      (l.foldl (fun s w => s.dropLease m w) s).pending = s.pending := by
    intro l
    induction l with
    | nil => simp
    | cons a l ih => intro s; simp only [List.foldl_cons]; simp [ih]
  simp [h, State.window, State.target, State.slot, State.port, State.head, State.hears]
  intro _; rfl

/-- What `cleanWindows` leaves unchanged. -/
@[simp] theorem State.cleanWindows_frame (m : MasterId) :
    (s.cleanWindows m).rstN = s.rstN ∧ (s.cleanWindows m).defaultRead = s.defaultRead ∧
    (s.cleanWindows m).defaultWrite = s.defaultWrite ∧ (s.cleanWindows m).leases = s.leases ∧
    (s.cleanWindows m).claims = s.claims ∧ (s.cleanWindows m).time = s.time ∧
    (s.cleanWindows m).targets = s.targets ∧ (s.cleanWindows m).engine = s.engine ∧
    (s.cleanWindows m).notices = s.notices ∧ (s.cleanWindows m).ports = s.ports ∧
    (s.cleanWindows m).toMaster = s.toMaster ∧ (s.cleanWindows m).toTarget = s.toTarget ∧
    (s.cleanWindows m).pending = s.pending ∧ (∀ w₀, (s.cleanWindows m).lease w₀ = s.lease w₀) ∧
    (∀ w₀, (s.cleanWindows m).holder w₀ = s.holder w₀) ∧ (∀ w₀, (s.cleanWindows m).queueOf w₀ = s.queueOf w₀) ∧
    (∀ t₀, (s.cleanWindows m).target t₀ = s.target t₀) ∧ (∀ m₀, (s.cleanWindows m).slot m₀ = s.slot m₀) ∧
    (∀ m₀, (s.cleanWindows m).unit m₀ = s.unit m₀) ∧ (∀ m₀, (s.cleanWindows m).port m₀ = s.port m₀) ∧
    (∀ m₀, (s.cleanWindows m).head m₀ = s.head m₀) := by
  simp [State.cleanWindows, State.lease, State.target, State.unit, State.port, State.slot, State.queueOf, State.head, State.holder]

/-- What `cleanTarget` leaves unchanged. -/
@[simp] theorem State.cleanTarget_frame (m : MasterId) (t : TargetId) :
    (s.cleanTarget m t).rstN = s.rstN ∧ (s.cleanTarget m t).windows = s.windows ∧
    (s.cleanTarget m t).defaultRead = s.defaultRead ∧ (s.cleanTarget m t).defaultWrite = s.defaultWrite ∧
    (s.cleanTarget m t).leases = s.leases ∧ (s.cleanTarget m t).claims = s.claims ∧
    (s.cleanTarget m t).time = s.time ∧ (s.cleanTarget m t).engine = s.engine ∧
    (s.cleanTarget m t).notices = s.notices ∧ (s.cleanTarget m t).ports = s.ports ∧
    (s.cleanTarget m t).toMaster = s.toMaster ∧ (s.cleanTarget m t).toTarget = s.toTarget ∧
    (s.cleanTarget m t).pending = s.pending ∧ (∀ w₀, (s.cleanTarget m t).window w₀ = s.window w₀) ∧
    (∀ w₀, (s.cleanTarget m t).lease w₀ = s.lease w₀) ∧ (∀ w₀, (s.cleanTarget m t).holder w₀ = s.holder w₀) ∧
    (∀ w₀, (s.cleanTarget m t).queueOf w₀ = s.queueOf w₀) ∧ (∀ m₀, (s.cleanTarget m t).slot m₀ = s.slot m₀) ∧
    (∀ m₀, (s.cleanTarget m t).unit m₀ = s.unit m₀) ∧ (∀ m₀, (s.cleanTarget m t).port m₀ = s.port m₀) ∧
    (∀ m₀, (s.cleanTarget m t).head m₀ = s.head m₀) ∧ (∀ m₀, (s.cleanTarget m t).hears m₀ = s.hears m₀) := by
  unfold State.cleanTarget; simp

/-- What `oweAtLeases` leaves unchanged. -/
@[simp] theorem State.oweAtLeases_frame  :
    (s.oweAtLeases).rstN = s.rstN ∧ (s.oweAtLeases).windows = s.windows ∧
    (s.oweAtLeases).defaultRead = s.defaultRead ∧ (s.oweAtLeases).defaultWrite = s.defaultWrite ∧
    (s.oweAtLeases).time = s.time ∧ (s.oweAtLeases).targets = s.targets ∧ (s.oweAtLeases).engine = s.engine ∧
    (s.oweAtLeases).notices = s.notices ∧ (s.oweAtLeases).ports = s.ports ∧ (s.oweAtLeases).toMaster = s.toMaster ∧
    (s.oweAtLeases).toTarget = s.toTarget ∧ (s.oweAtLeases).pending = s.pending ∧
    (∀ w₀, (s.oweAtLeases).window w₀ = s.window w₀) ∧ (∀ t₀, (s.oweAtLeases).target t₀ = s.target t₀) ∧
    (∀ m₀, (s.oweAtLeases).slot m₀ = s.slot m₀) ∧ (∀ m₀, (s.oweAtLeases).unit m₀ = s.unit m₀) ∧
    (∀ m₀, (s.oweAtLeases).port m₀ = s.port m₀) ∧ (∀ m₀, (s.oweAtLeases).head m₀ = s.head m₀) := by
  simp [State.oweAtLeases, State.window, State.target, State.unit, State.port, State.slot, State.head]

/-- What `oweAt` leaves unchanged. -/
@[simp] theorem State.oweAt_frame (b : TickBlock) :
    (s.oweAt b).rstN = s.rstN ∧ (s.oweAt b).windows = s.windows ∧ (s.oweAt b).defaultRead = s.defaultRead ∧
    (s.oweAt b).defaultWrite = s.defaultWrite ∧ (s.oweAt b).time = s.time ∧ (s.oweAt b).engine = s.engine ∧
    (s.oweAt b).notices = s.notices ∧ (s.oweAt b).ports = s.ports ∧ (s.oweAt b).toMaster = s.toMaster ∧
    (s.oweAt b).toTarget = s.toTarget ∧ (s.oweAt b).pending = s.pending ∧
    (∀ w₀, (s.oweAt b).window w₀ = s.window w₀) ∧ (∀ m₀, (s.oweAt b).slot m₀ = s.slot m₀) ∧
    (∀ m₀, (s.oweAt b).unit m₀ = s.unit m₀) ∧ (∀ m₀, (s.oweAt b).port m₀ = s.port m₀) ∧
    (∀ m₀, (s.oweAt b).head m₀ = s.head m₀) := by
  unfold State.oweAt; split <;> simp

/-- What every countdown taken leaves unchanged, `takeOwedLeases` leaves unchanged. -/
theorem State.takeOwedLeases_keeps {γ : Type} (F : State → γ)
    (hl : ∀ (s : State) w, F (s.countLease w) = F s) (hc : ∀ (s : State) w m, F (s.countClaim w m) = F s) :
    F (s.takeOwedLeases) = F s := by
  unfold State.takeOwedLeases
  generalize allWindows = l
  exact (foldl_keeps F _ (fun s (c : WaitingClaim) => hc s c.window c.claimant) _ _).trans (foldl_keeps F _ hl _ _)

/-- What `takeOwedLeases` leaves unchanged. -/
@[simp] theorem State.takeOwedLeases_frame  :
    (s.takeOwedLeases).rstN = s.rstN ∧ (s.takeOwedLeases).windows = s.windows ∧
    (s.takeOwedLeases).defaultRead = s.defaultRead ∧ (s.takeOwedLeases).defaultWrite = s.defaultWrite ∧
    (s.takeOwedLeases).time = s.time ∧ (s.takeOwedLeases).targets = s.targets ∧
    (s.takeOwedLeases).engine = s.engine ∧ (s.takeOwedLeases).ports = s.ports ∧
    (s.takeOwedLeases).toMaster = s.toMaster ∧ (s.takeOwedLeases).toTarget = s.toTarget ∧
    (s.takeOwedLeases).pending = s.pending ∧ (∀ w₀, (s.takeOwedLeases).window w₀ = s.window w₀) ∧
    (∀ t₀, (s.takeOwedLeases).target t₀ = s.target t₀) ∧ (∀ m₀, (s.takeOwedLeases).slot m₀ = s.slot m₀) ∧
    (∀ m₀, (s.takeOwedLeases).port m₀ = s.port m₀) ∧ (∀ m₀, (s.takeOwedLeases).head m₀ = s.head m₀) ∧
    (∀ m₀, (s.takeOwedLeases).hears m₀ = s.hears m₀) := by
  exact ⟨s.takeOwedLeases_keeps (·.rstN) (by simp) (by simp), s.takeOwedLeases_keeps (·.windows) (by simp) (by simp),
    s.takeOwedLeases_keeps (·.defaultRead) (by simp) (by simp),
    s.takeOwedLeases_keeps (·.defaultWrite) (by simp) (by simp), s.takeOwedLeases_keeps (·.time) (by simp) (by simp),
    s.takeOwedLeases_keeps (·.targets) (by simp) (by simp), s.takeOwedLeases_keeps (·.engine) (by simp) (by simp),
    s.takeOwedLeases_keeps (·.ports) (by simp) (by simp), s.takeOwedLeases_keeps (·.toMaster) (by simp) (by simp),
    s.takeOwedLeases_keeps (·.toTarget) (by simp) (by simp), s.takeOwedLeases_keeps (·.pending) (by simp) (by simp),
    fun i => s.takeOwedLeases_keeps (·.window i) (by simp) (by simp),
    fun i => s.takeOwedLeases_keeps (·.target i) (by simp) (by simp),
    fun i => s.takeOwedLeases_keeps (·.slot i) (by simp) (by simp),
    fun i => s.takeOwedLeases_keeps (·.port i) (by simp) (by simp),
    fun i => s.takeOwedLeases_keeps (·.head i) (by simp) (by simp),
    fun i => s.takeOwedLeases_keeps (·.hears i) (by simp) (by simp)⟩

/-- What every countdown taken leaves unchanged, `takeOwedTarget` leaves unchanged. -/
theorem State.takeOwedTarget_keeps {γ : Type} (F : State → γ) (t : TargetId)
    (hx : ∀ (s : State) t x, F (s.countAge t x) = F s) :
    F (s.takeOwedTarget t) = F s := by
  unfold State.takeOwedTarget
  exact foldl_keeps F _ (fun s x => hx s t x) _ _

/-- What `takeOwedTarget` leaves unchanged. -/
@[simp] theorem State.takeOwedTarget_frame (t : TargetId) :
    (s.takeOwedTarget t).rstN = s.rstN ∧ (s.takeOwedTarget t).defaultRead = s.defaultRead ∧
    (s.takeOwedTarget t).defaultWrite = s.defaultWrite ∧ (s.takeOwedTarget t).claims = s.claims ∧
    (s.takeOwedTarget t).time = s.time ∧ (s.takeOwedTarget t).engine = s.engine ∧
    (s.takeOwedTarget t).toTarget = s.toTarget ∧ (s.takeOwedTarget t).pending = s.pending ∧
    (∀ w₀, (s.takeOwedTarget t).queueOf w₀ = s.queueOf w₀) ∧ (∀ m₀, (s.takeOwedTarget t).slot m₀ = s.slot m₀) := by
  exact ⟨s.takeOwedTarget_keeps (·.rstN) t (by simp), s.takeOwedTarget_keeps (·.defaultRead) t (by simp),
    s.takeOwedTarget_keeps (·.defaultWrite) t (by simp), s.takeOwedTarget_keeps (·.claims) t (by simp),
    s.takeOwedTarget_keeps (·.time) t (by simp), s.takeOwedTarget_keeps (·.engine) t (by simp),
    s.takeOwedTarget_keeps (·.toTarget) t (by simp), s.takeOwedTarget_keeps (·.pending) t (by simp),
    fun i => s.takeOwedTarget_keeps (·.queueOf i) t (by simp), fun i => s.takeOwedTarget_keeps (·.slot i) t (by simp)⟩

/-- What `takeOwedAt` leaves unchanged. -/
@[simp] theorem State.takeOwedAt_frame (b : TickBlock) :
    (s.takeOwedAt b).rstN = s.rstN ∧ (s.takeOwedAt b).defaultRead = s.defaultRead ∧
    (s.takeOwedAt b).defaultWrite = s.defaultWrite ∧ (s.takeOwedAt b).time = s.time ∧
    (s.takeOwedAt b).engine = s.engine ∧ (s.takeOwedAt b).toTarget = s.toTarget ∧
    (s.takeOwedAt b).pending = s.pending ∧ (∀ m₀, (s.takeOwedAt b).slot m₀ = s.slot m₀) := by
  unfold State.takeOwedAt; split <;> simp

/-- What `tickArrives` leaves unchanged. -/
@[simp] theorem State.tickArrives_frame (b : TickBlock) :
    (s.tickArrives b).rstN = s.rstN ∧ (s.tickArrives b).defaultRead = s.defaultRead ∧
    (s.tickArrives b).defaultWrite = s.defaultWrite ∧ (s.tickArrives b).engine = s.engine ∧
    (s.tickArrives b).toTarget = s.toTarget ∧ (s.tickArrives b).pending = s.pending ∧
    (∀ m₀, (s.tickArrives b).slot m₀ = s.slot m₀) := by
  unfold State.tickArrives; dsimp only; split <;> simp

end Sys2Proof.Machine
end

