-- ==== Sys2Proof/Laws/Commands.lean ====
section
/-! SUPPORT. Laws/Commands.lean: for each operation that the meanings share, everything it does under the conditions the
statements put on it: a happening, a delivered command and its result, the turn among the masters, the decision at a head, the
completion it returns, and the countdowns that are owed. -/

namespace Sys2Proof.Machine

variable {s : State}

/-! ### A happening -/

theorem happening_released (effect : State → State) (h : s.rstN = .released) : happening s effect = .next (effect s) := by
  simp [happening, h]

theorem happening_asserted (effect : State → State) (h : s.rstN = .asserted) : happening s effect = .next s := by
  simp [happening, h]

/-! ### The take while a cleanup is under way -/

theorem takeable_of_clear (m : MasterId) (h : (s.port m).cleanup = .clear) :
    s.takeable m = decide ((s.slot m).state = .pending) := by
  simp [State.takeable, State.dropped, h]

/-- What the take asks of a PENDING slot whose code names a command, while its master's cleanup is under way. -/
theorem takeable_of_cleanup {m : MasterId} {c : Command} (hp : (s.port m).cleanup ≠ .clear)
    (hc : commandOf (s.slot m).code = some c) :
    s.takeable m = true ↔ (s.slot m).state = .pending ∧ c.droppedAtCleanup = false ∧
      (classCheck s.engine.setup m c.permission = none →
        ∀ b ∈ c.owners (s.slot m).args, (s.port m).cleanup.hasTaken b = false) := by
  cases hk : classCheck s.engine.setup m c.permission <;>
    simp [State.takeable, State.dropped, State.deliveredTooLate, hp, hc, hk]

/-- A command that a take delivers while its master's cleanup is under way is taken at its block before the part there. -/
theorem hasTaken_of_takeable {m : MasterId} {c : Command} {b : CleanupBlock} (ht : s.takeable m = true)
    (hc : commandOf (s.slot m).code = some c) (hk : classCheck s.engine.setup m c.permission = none)
    (hb : b ∈ c.owners (s.slot m).args) : (s.port m).cleanup.hasTaken b = false := by
  by_cases hp : (s.port m).cleanup = .clear
  · simp [hp, CleanupState.hasTaken]
  · exact ((takeable_of_cleanup hp hc).mp ht).2.2 hk b hb

/-- No take during a cleanup delivers a command to the lease manager. -/
theorem leases_not_owner_of_takeable {m : MasterId} {c : Command} (ht : s.takeable m = true)
    (hc : commandOf (s.slot m).code = some c) (hp : (s.port m).cleanup ≠ .clear) :
    CleanupBlock.leases ∉ c.owners (s.slot m).args := by
  have hd := ((takeable_of_cleanup hp hc).mp ht).2.1
  cases c <;> simp_all [Command.droppedAtCleanup, Command.owners]

/-! ### Argument words -/

theorem argFin_eq_some {n : Nat} (i : Fin n) {v : Nat} (h : v = i.val) : argFin n v = some i := by
  subst h; simp [argFin]

theorem argFin_eq_none {n v : Nat} (h : n ≤ v) : argFin n v = none := by
  simp [argFin, Nat.not_lt.mpr h]

theorem argLeaseKind_code {v : Nat} (k : LeaseKind) (h : v = k.code) : argLeaseKind v = some k := by
  subst h; cases k <;> rfl

theorem argSet_eq_some {v : Nat} (h : v < 16) : argSet v = some (Table.ofFn fun m => v.testBit m.val) := by
  simp [argSet, h]

/-- A control page word survives its four bytes on the link. -/
@[simp] theorem bytesWord_wordBytes (v : Word) : bytesWord (wordBytes v) = v := by
  simp only [bytesWord, wordBytes, List.getD_cons_zero, List.getD_cons_succ]
  apply BitVec.eq_of_getLsbD_eq
  intro i hi
  simp only [BitVec.getLsbD_append, BitVec.getLsbD_extractLsb']
  by_cases h1 : i < 8
  · simp [h1]
  · by_cases h2 : i < 16
    · have : i - 8 < 8 := by omega
      simp [h1, this]; congr 1; omega
    · by_cases h3 : i < 24
      · have a : ¬ i - 8 < 8 := by omega
        have b : i - 8 - 8 < 8 := by omega
        simp [h1, a, b]; congr 1; omega
      · have a : ¬ i - 8 < 8 := by omega
        have b : ¬ i - 8 - 8 < 8 := by omega
        have c : i - 8 - 8 - 8 < 8 := by omega
        simp [h1, a, b, c]; congr 1; omega

/-! ### The turn among the masters (R84, R132) -/

/-- In turn after last served, the first master with a property is the one that has it at the least distance. -/
theorem find?_turnOrder (last m : MasterId) (p : MasterId → Bool) (hm : p m = true)
    (least : ∀ k, p k = true → (m - last - 1).val ≤ (k - last - 1).val) : (turnOrder last).find? p = some m := by
  revert last m p
  decide +kernel

/-! ### Delivered commands (R133, R134) -/

/-- A wanted result comes back: the state is the effect's, answered. -/
theorem finishCommand_wanted (m : MasterId) (c : Command) (a : Args) (r : Reply) :
    s.finishCommand ⟨m, c, a, false⟩ r = s.answered m r.code r.words := by
  simp [State.finishCommand, State.answered, State.setEngine, State.setSlot, Slot.finish, State.slot]

/-- A discarded result comes back: the command under way ends and the slots stand. -/
theorem finishCommand_discarded (m : MasterId) (c : Command) (a : Args) (r : Reply) :
    s.finishCommand ⟨m, c, a, true⟩ r = s.setEngine { s.engine with underWay := none } := by
  simp [State.finishCommand]

/-- The happening in which an owning block takes the command delivered to it. -/
theorem takeDelivered_delivered {c : Command} {m : MasterId} {a : Args} (effect : State → MasterId → Args → State × Reply)
    (h : s.delivered m c a) :
    (happening s fun s => s.takeDelivered c effect) =
      .next ((effect s m a).1.answered m (effect s m a).2.code (effect s m a).2.words) := by
  simp [happening_released _ h.1, State.takeDelivered, h.2, finishCommand_wanted]

/-- The take of a slot by the idle engine. -/
theorem commandTake_next {m : MasterId} (h : s.rstN = .released) (hm : s.nextTake = some m) :
    exec .commandTake s = .next (s.takeSlot m) := by
  simp [exec, execCommandTake, happening_released _ h, hm]

theorem claimOf_eq_none {w : WindowId} {m : MasterId} (h : ∀ c ∈ s.claims, c.window = w → c.claimant ≠ m) :
    s.claimOf w m = none := by
  simp only [State.claimOf, List.find?_eq_none]
  intro c hc
  simp [WaitingClaim.isFor]
  exact h c hc

/-! ### The head of a queue (R22, R155) -/

theorem completeHead_returned (m : MasterId) (f : CompletionFrame) : s.completeHead m f = s.returned m f := by
  simp [State.completeHead, State.returned, State.leaveHead, State.complete, State.sendToMaster, State.setPort, State.port]

/-- A due decision is taken and carried out. -/
theorem steeringDecision_decides {m : MasterId} {r : Request} (h : s.decides m r) :
    exec (.steeringDecision m) s = .next (s.carryOut m r (s.decision m r)) := by
  simp [exec, execSteeringDecision, happening_released _ h.1, State.decideHead, h.2]

/-- The decision of a request that reaches a window's route is the route's. -/
theorem decision_reaches {m : MasterId} {r : Request} {w : WindowId} (h : s.reaches m r w) :
    s.decision m r = s.routeDecision m w r := by
  obtain ⟨-, h2, h3, h4, h5⟩ := h
  simp [State.decision, State.steered, h2, h3, State.windowDecision, h4, h5]

/-! ### Fresh decisions at the count limit (R17) -/

/-- Outside the control page the decision is the steered one. -/
theorem decision_steered {m : MasterId} {r : Request} (h : inControlPage r.address = false) :
    s.decision m r = s.steered m r := by
  simp [State.decision, h]

/-- A head held at the count limit is steered afresh, and the new decision is carried out. -/
theorem redecideHead_held {m : MasterId} {r : Request} (h : s.heldHead m = some r) :
    s.redecideHead m = s.carryOut m r (s.steered m r) := by
  simp [State.redecideHead, h]

theorem redecideHead_none {m : MasterId} (h : s.heldHead m = none) : s.redecideHead m = s := by
  simp [State.redecideHead, h]

/-- Where no head is held at the count limit, a change to the window table decides none. -/
theorem redecideHeads_none (h : ∀ m, s.heldHead m = none) : s.redecideHeads = s := by
  simp [State.redecideHeads, allMasters, redecideHead_none (h _)]

theorem redecideAfterFalls_none (before : State) (h : ∀ m, s.heldHead m = none) : s.redecideAfterFalls before = s := by
  simp [State.redecideAfterFalls, redecideHeads_none h]

/-- No count has fallen in a happening that has left the windows as they were. -/
@[simp] theorem countFell_of_windows {t : State} (h : t.windows = s.windows) : t.countFell s = false := by
  simp [State.countFell, State.window, h]

/-- A happening that has left the windows as they were calls for no fresh decision. -/
theorem redecideAfterFalls_of_windows {t : State} (h : t.windows = s.windows) : t.redecideAfterFalls s = t := by
  simp [State.redecideAfterFalls, countFell_of_windows h]

/-! ### Countdowns that are not owed (R43, R89) -/

theorem countLease_settled {w : WindowId} (h : ∀ l ∈ s.lease w, l.owed = false) : s.countLease w = s := by
  unfold State.countLease
  split
  · rfl
  · rename_i l hl; simp [h l (by simp [hl])]

theorem countClaim_settled {w : WindowId} {m : MasterId} (h : ∀ c ∈ s.claims, c.owed = false) : s.countClaim w m = s := by
  unfold State.countClaim
  split
  · rfl
  · rename_i c hc; simp [h c (List.mem_of_find?_eq_some hc)]

theorem countAge_settled {t : TargetId} {x : Xid} (h : ∀ r ∈ (s.target t).record x, r.owed = false) : s.countAge t x = s := by
  unfold State.countAge
  split
  · rfl
  · rename_i r hr; simp [h r (by simp [hr])]

/-- A fold whose steps do nothing does nothing. -/
theorem foldl_same {α β : Type} (f : β → α → β) (b : β) (h : ∀ a, f b a = b) (l : List α) : l.foldl f b = b := by
  induction l with
  | nil => rfl
  | cons a l ih => simp [h, ih]

/-- Where the lease manager owes nothing, taking what it owes does nothing. -/
theorem takeOwedLeases_settled (h : s.leasesSettled) : s.takeOwedLeases = s := by
  unfold State.takeOwedLeases
  rw [foldl_same (fun s w => s.countLease w) s (fun w => countLease_settled (h.1 w))]
  exact foldl_same (fun s (c : WaitingClaim) => s.countClaim c.window c.claimant) s (fun c => countClaim_settled h.2) _

/-- Where a target port owes nothing, taking what it owes does nothing. -/
theorem takeOwedTarget_settled {t : TargetId} (h : s.targetSettled t) : s.takeOwedTarget t = s :=
  foldl_same _ _ (fun x => countAge_settled (h x)) _

/-- A tick that is not on its way to a block does not arrive there. -/
theorem tickArrives_none {b : TickBlock} (h : s.time.due.at b = 0) : s.tickArrives b = s := by
  simp [State.tickArrives, h]

/-- The arrival of a tick at a lease manager that owes nothing. -/
theorem tickArrives_leases (hd : s.time.due.leases ≠ 0) (h : s.leasesSettled) :
    s.tickArrives .leases = (s.setTime { s.time with due := s.time.due.arrived .leases }).oweAtLeases := by
  simp [State.tickArrives, TicksDue.at, hd, State.takeOwedAt, State.oweAt, takeOwedLeases_settled h]

/-- The arrival of a tick at a target port that owes nothing. -/
theorem tickArrives_target {t : TargetId} (hd : s.time.due.targets.get t ≠ 0) (h : s.targetSettled t) :
    s.tickArrives (.target t) =
      (s.setTime { s.time with due := s.time.due.arrived (.target t) }).setTarget t (s.target t).owing := by
  simp [State.tickArrives, TicksDue.at, hd, State.takeOwedAt, State.oweAt, takeOwedTarget_settled h, State.target, State.setTime]

/-- Where nothing is owed or on its way, an idle step is a REFCLK period. -/
theorem nextPart_settled (h : s.settled) : s.nextPart = none := by
  obtain ⟨⟨h1, h2⟩, h3, h4, h5⟩ := h
  have a : (allWindows.find? fun w => (s.lease w).any Lease.owed) = none := by
    simp only [List.find?_eq_none]
    intro w _
    cases hl : s.lease w with
    | none => simp
    | some l => simp [h1 w l (by simp [hl])]
  have b : s.claims.find? WaitingClaim.owed = none := by
    simp only [List.find?_eq_none]
    intro c hc; simp [h2 c hc]
  have c : ∀ t, (allXids.find? fun x => ((s.target t).record x).any OutRecord.owed) = none := by
    intro t
    simp only [List.find?_eq_none]
    intro x _
    cases hr : (s.target t).record x with
    | none => simp
    | some r => simp [h3 t x r (by simp [hr])]
  have d : ∀ b, s.time.due.at b = 0 := by intro b; cases b <;> simp [TicksDue.at, h4, h5]
  simp [State.nextPart, State.owedPart, a, b, c, d]

/-- An idle step where nothing is owed or on its way. -/
theorem idle_settled (hr : s.rstN = .released) (h : s.settled) : idle s = .next s.refclk := by
  simp [idle, happening, hr, nextPart_settled h]

end Sys2Proof.Machine
end

