-- ==== Sys2Proof/Tests/Slice0.lean ====
section
/-! SUPPORT. Tests/Slice0.lean: the model's own tests. The ill-formed terms that WellFormed refuses; the codes and words of chapter
11; one step of each command on a small state, its expected result read from the rule the comment names; and for every statement
with hypotheses, a state and operands that meet them. -/

namespace Sys2Proof.Tests

open Sys2Proof.Machine

-- Each theorem here is a kernel evaluation: one after the other, so that they do not all take their memory at once.
set_option Elab.async false

/-! ### WellFormed refuses the ill-formed (R152, 11.5) -/

theorem test_length_zero_refused : (Instr.requestFrame 0 ⟨1, .read, 0x1000, 0, []⟩).wellFormed = false := by decide

theorem test_length_above_64_refused : (Instr.requestFrame 0 ⟨1, .read, 0x1000, 65, []⟩).wellFormed = false := by decide

theorem test_block_crossing_refused : (Instr.requestFrame 0 ⟨1, .read, 0x103F, 2, []⟩).wellFormed = false := by decide

theorem test_short_write_data_refused : (Instr.requestFrame 0 ⟨1, .write, 0x1000, 2, [7]⟩).wellFormed = false := by decide

theorem test_read_data_refused : (Instr.requestFrame 0 ⟨1, .read, 0x1000, 1, [7]⟩).wellFormed = false := by decide

theorem test_long_answer_refused :
    (Instr.targetCompletion 0 ⟨1, .ok, List.replicate 65 0⟩).wellFormed = false := by decide

theorem test_error_answer_data_refused : (Instr.targetCompletion 0 ⟨1, .error, [7]⟩).wellFormed = false := by decide

theorem test_whole_block_accepted : (Instr.requestFrame 0 ⟨1, .read, 0x1000, 64, []⟩).wellFormed = true := by decide

/-! ### Codes and words (R162, R164 to R166) -/

/-- The table gives no row any bits. -/
theorem test_no_word_spells_a_command : decodeTableWord 0 0 = none ∧ State.reset.withFetchWord 0 0 = State.reset :=
  ⟨rfl, rfl⟩

/-- R164: 0x20 is CLAIM, 0x34 UNFENCE_TARGET, and 0x35 names none. -/
theorem test_command_codes :
    commandOf 0x20 = some .claim ∧ commandOf 0x34 = some .unfenceTarget ∧ commandOf 0x35 = none := by decide

/-- R162: the ends of the argument and result words, and an offset between them. -/
theorem test_page_words :
    pageWordAt 0x028 = .argument 9 ∧ pageWordAt 0x02C = .unnamed ∧ pageWordAt 0x040 = .resultCode ∧
    pageWordAt 0x060 = .result 7 ∧ pageWordAt 0x80C = .masterLinks := by decide

/-- R166: after device reset the tick settings word shows scale 10 and divider 125 in bits 31:16. -/
theorem test_tick_settings_word : State.reset.pageRead 0 .tickSettings = 0x007D000A := by decide +kernel

/-- R2: a 2 GiB window at 0x8000_0000 would hold the control page, and one at 0 does not. -/
theorem test_geometry_ends :
    geometryOk 0x80000000 31 = false ∧ geometryOk 0 31 = true ∧ geometryOk 0x1000 11 = false ∧
    geometryOk 0xFFFFF000 12 = false ∧ geometryOk 0xFFFFE000 12 = true := by decide

/-! ### Small states -/

/-- Every link UP and nothing else happened. -/
def base : State :=
  { State.reset with
    ports := Table.fill 4 { MasterPort.resetPort with link := .up, trained := true }
    targets := Table.fill 4 { TargetPort.resetPort with link := .up } }

def everyone : MasterSet := Table.fill 4 true

/-- A 4 KiB ACTIVE window at 0x10000 that reads from T1 and writes to T1 and T2. -/
def mirrored : WindowRecord :=
  { WindowRecord.freeRecord with
    state := .active, base := 0x10000, sizeLog2 := 12, tier := 1, policy := .sharedUntilHeld, contention := true,
    readSet := everyone, writeSet := everyone, readRoute := .target 1 0x20000,
    writeRoute := .mirror 1 0x20000 2 0x30000 }

def withWindow (r : WindowRecord) (s : State) : State := s.setWindow 5 r

/-- M1 holds W5 with this much time remaining, its countdown owed. -/
def held (remaining warnAt : Nat) (s : State) : State :=
  s.setLease 5 (some ⟨1, .sole, 9, remaining, warnAt, false, 0, MasterSet.empty, true⟩)

/-- M2 waits for W5 with this wait remaining, its countdown owed. -/
def waiting (n : Option Nat) (s : State) : State := s.setClaims (s.claims ++ [⟨5, 2, .write, 7, 3, n, true⟩])

def args (l : List Nat) : Args := Table.ofFn fun i => BitVec.ofNat 32 (l.getD i.val 0)

/-- M0's command has been delivered with these arguments. -/
def given (c : Command) (l : List Nat) (s : State) : State :=
  { s with engine := { s.engine with
      slots := s.engine.slots.put 0 { Slot.idleSlot with state := .executing, code := BitVec.ofNat 8 c.code, args := args l }
      underWay := some ⟨0, c, args l, false⟩ } }

/-- M0's slot is PENDING with this code and these arguments. -/
def issued (code : BitVec 8) (l : List Nat) (s : State) : State :=
  s.setSlot 0 { Slot.idleSlot with state := .pending, code := code, args := args l }

def holds (r : SetupRight) (s : State) : State := s.setEngine { s.engine with setup := r }

/-- A request at the head of M0's queue, its tag 3 OUTSTANDING. -/
def headed (r : Request) (s : State) : State :=
  s.setPort 0 { s.port 0 with inbound := [r], tags := (s.port 0).tags.put 3 .outstanding }

def read (address : Word) (length : Nat) : Request := ⟨3, .read, address, length, [], .unbound false⟩

def write (address : Word) (v : Word) : Request := ⟨3, .write, address, 4, wordBytes v, .unbound false⟩

/-- A read of M0 through W5 that is held unbound at W5's count of 64, with T1 and a mirror behind it. -/
def heldAtLimit (r : WindowRecord) : State :=
  headed { read 0x10000 4 with binding := .unbound true } (withWindow { r with inFlight := 64 } base)

/-- M0 waits at T1 with its head bound to W5 of this count. -/
def bound (r : Request) (route : BoundRoute) (s : State) : State :=
  ((headed { r with binding := .bound ⟨0, some 5, route⟩ } s).setWindow 5 { s.window 5 with inFlight := 1 }).setTarget 1
    { s.target 1 with waiting := (s.target 1).waiting.insert 0 }

/-- A read of M0 with tag 3 stands outstanding at T1 under xid 0, bound to W5, its count owed. -/
def outstanding (age : Nat) (s : State) : State :=
  (s.setWindow 5 { s.window 5 with inFlight := 1 }).setTarget 1 { s.target 1 with
    freeList := (s.target 1).freeList.tail
    records := (s.target 1).records.put 0 (some ⟨0, 3, 0, some 5, .read, 0x20000, 4, age, none, true⟩) }

def parted (s : State) : State := s.setPort 0 { (s.port 0).emptied.handedOver with generation := 1 }

def targetAs (t : TargetId) (st : TargetState) (s : State) : State := s.setTarget t { s.target t with state := st }

def linkAs (t : TargetId) (l : TargetLink) (s : State) : State := s.setTarget t { s.target t with link := l }

/-- The state a command answers. -/
def after (c : Instr) (s : State) : State :=
  match exec c s with
  | .next t => t
  | .fault _ => s
  | .refused _ => s

def noticesOf (s : State) (m : MasterId) : List NoticeBody := (s.unit m).queue.toList.map Notice.body

/-- The result of M0's command. -/
def resultOf (s : State) : Option Result := (s.slot 0).result

/-! ### One step of each command -/

/-- R161, R80: the reset ends the links' training. -/
theorem test_device_reset :
    (after .deviceReset base).rstN = .asserted ∧ ((after .deviceReset base).target 2).link = .training := by decide +kernel

/-- R42. -/
theorem test_rst_n_release :
    (after .rstNRelease { base with rstN := .asserted, time := ⟨10, 125, 77, TicksDue.none⟩ }).time.prescale = 0 := by decide +kernel

/-- R50: 5 to 4, the warn_at, with LEASE_WARNING. -/
theorem test_tick_lease :
    noticesOf (after (.tick (.lease 5)) (held 5 4 base)) 1 = [.leaseWarning 5 4] := by decide +kernel

/-- R43: the tick arrives at T1 and, as a happening of its own, at the lease manager, where a lease that has come to stand after
the emission owes it too. -/
theorem test_tick_arrivals_apart :
    let first := after (.tick (.arrive (.target 1))) (after (.tick .emit) (outstanding 0 base))
    let l : Lease := ⟨1, .sole, 9, 5, 0, false, 0, MasterSet.empty, false⟩
    ((first.target 1).record 0).map OutRecord.owed = some true ∧ first.time.due.leases = 1 ∧
    ((after (.tick (.arrive .leases)) (first.setLease 5 (some l))).lease 5).map Lease.owed = some true := by decide +kernel

/-- R43: what a tick still owes is taken before the next one arrives. -/
theorem test_tick_arrives_after_the_last :
    let s := after (.tick (.arrive .leases)) (after (.tick .emit) (held 5 0 base))
    (s.lease 5).map Lease.remaining = some 4 ∧ (s.lease 5).map Lease.owed = some true ∧ s.time.due.leases = 0 := by
  decide +kernel

/-- R51, R58: the holder is told and the waiting claim takes over. -/
theorem test_expired_hands_on :
    (after (.expired 5) (waiting none (held 1 0 base))).holder 5 = some 2 ∧
    noticesOf (after (.expired 5) (waiting none (held 1 0 base))) 1 = [.expired 5] := by decide +kernel

/-- R58: GRANTED carries the whole duration. -/
theorem test_handoff : noticesOf (after (.handoff 5) (waiting none base)) 2 = [.granted 5 7] := by decide +kernel

/-- R68. -/
theorem test_claim_lapsed :
    noticesOf (after (.claimLapsed 5 2) (waiting (some 1) (held 4 0 base))) 2 = [.claimLapsed 5 .waitLimit] ∧
    (after (.claimLapsed 5 2) (waiting (some 1) (held 4 0 base))).claims = [] := by decide +kernel

/-- R90: at 64 ticks the master gets TIMEOUT and the xid joins the tail. -/
theorem test_timeout :
    (after (.timeout 1 0) (outstanding 63 (withWindow mirrored base))).toMaster.get 0 = [⟨3, .timeout, none, []⟩] ∧
    ((after (.timeout 1 0) (outstanding 63 (withWindow mirrored base))).target 1).freeList.getLast? = some 0 := by
  decide +kernel

/-- R91: the fourth timeout in a row faults the target. -/
theorem test_timeout_faults :
    ((after (.timeout 1 0) (outstanding 63 (base.setTarget 1 { base.target 1 with consecutive := 3 }))).target 1).state =
      .faulted := by decide +kernel

/-- R151, R154. -/
theorem test_request_frame :
    ((after (.requestFrame 0 ⟨3, .read, 0x10000, 4, []⟩) base).port 0).tags.get 3 = .outstanding ∧
    ((after (.requestFrame 0 ⟨3, .read, 0x10000, 4, []⟩) base).port 0).inbound.length = 1 := by decide +kernel

/-- R153. -/
theorem test_tag_clash :
    noticesOf (after (.requestFrame 0 ⟨3, .read, 0x10000, 4, []⟩) (headed (read 0x10000 4) base)) 0 =
      [.protocolFault .tagClash 3] := by decide +kernel

/-- R157: the bound head ends with no completion, and its window's count falls. -/
theorem test_port_reset :
    ((after (.portReset 0) (bound (read 0x10000 4) (.single 1 0x20000) (withWindow mirrored base))).window 5).inFlight = 0 ∧
    (after (.portReset 0) (bound (read 0x10000 4) (.single 1 0x20000) (withWindow mirrored base))).toMaster.get 0 = [] := by
  decide +kernel

/-- R17: that fall brings the count of 64 to 63, and M1's read held there is bound in the same step. -/
theorem test_port_reset_decides_held_head :
    let s := (bound (read 0x10000 4) (.single 1 0x20000) (withWindow mirrored base)).setPort 1
      { base.port 1 with inbound := [{ read 0x10008 4 with binding := .unbound true }] }
    let u := after (.portReset 0) (s.setWindow 5 { s.window 5 with inFlight := 64 })
    u.headBinding 1 = some ⟨0, some 5, .single 1 0x20008⟩ ∧ (u.window 5).inFlight = 64 := by decide +kernel

/-- R149, R157. -/
theorem test_link_drop :
    ((after (.linkDrop 0) base).port 0).link = .down ∧ ((after (.linkDrop 0) base).port 0).generation = 1 := by decide +kernel

/-- R149. -/
theorem test_master_link_trains : ((after (.masterLinkTrains 3) State.reset).port 3).link = .up := by decide +kernel

/-- R126. -/
theorem test_cleanup_engine_part :
    (after (.cleanupEnginePart 0) (parted (holds (.held 0) base))).engine.setup = .open := by decide +kernel

/-- R145. -/
theorem test_cleanup_notice_part :
    ((after (.cleanupNoticePart 0) (parted (base.post 0 (.expired 5)))).unit 0).nextSeq = 0 := by decide +kernel

/-- R59: the lease of the master under cleanup goes to the claim that waits. -/
theorem test_cleanup_lease_part :
    (after (.cleanupLeasePart 1) (waiting none (held 4 0 (base.setPort 1 (base.port 1).emptied.handedOver)))).holder 5 =
      some 2 := by decide +kernel

/-- R20. -/
theorem test_cleanup_window_part :
    ((after (.cleanupWindowPart 0) (parted (withWindow { mirrored with
      state := .retiring, retiringMaster := some 0, inFlight := 1 } base))).window 5).retiringMaster = none := by
  decide +kernel

/-- R98. -/
theorem test_cleanup_target_part :
    ((after (.cleanupTargetPart 0 1) (parted (base.setTarget 1 { base.target 1 with waiting := everyone }))).target
      1).waiting.members = [1, 2, 3] := by decide +kernel

/-- R26, R35: no window, and the default route is DENY. -/
theorem test_steering_no_route :
    (after (.steeringDecision 0) (headed (read 0x10000 4) base)).toMaster.get 0 = [⟨3, .refused, some .noRoute, []⟩] := by
  decide +kernel

/-- R32, R36: the address bound is target base + (address − window base). -/
theorem test_steering_translates :
    ((after (.steeringDecision 0) (headed (read 0x10ABC 4) (withWindow mirrored base))).headBinding 0) =
      some ⟨0, some 5, .single 1 0x20ABC⟩ := by decide +kernel

/-- R143, R165: kind EXPIRED 2 in byte 0, none left in byte 1, sequence 0. -/
theorem test_event_port_read :
    (after (.eventPortRead 0) (headed (read 0xFFFFF100 4) (base.post 0 (.expired 5)))).toMaster.get 0 =
      [⟨3, .ok, none, [2, 0, 0, 0]⟩] := by decide +kernel

/-- R144: bit 2 enables EXPIRED, and the line follows. -/
theorem test_notice_mask_write :
    ((after (.noticeMaskWrite 0) (headed (write 0xFFFFF110 5) (base.post 0 (.expired 5)))).unit 0).mask = 4 ∧
    ((after (.noticeMaskWrite 0) (headed (write 0xFFFFF110 5) (base.post 0 (.expired 5)))).unit 0).line = true := by
  decide +kernel

/-- R130: GO with code 0x20. -/
theorem test_control_page_write :
    ((after (.controlPageWrite 0) (headed (write 0xFFFFF000 0x80000020) base)).slot 0).state = .pending ∧
    ((after (.controlPageWrite 0) (headed (write 0xFFFFF000 0x80000020) base)).slot 0).code = 0x20 := by decide +kernel

/-- R122; and R132, R59: with a cleanup under way a PENDING CLOSE_SETUP is taken still, and a CLAIM and a RETIRE_WINDOW, which
reach the lease manager, are not. -/
theorem test_command_take :
    (after .commandTake (issued 0x01 [] base)).engine.setup = .held 0 ∧
    resultOf (after .commandTake (issued 0x01 [] base)) = some .ok ∧
    (after .commandTake (parted (holds (.held 0) (issued 0x04 [] base)))).engine.setup = .closed ∧
    (parted (issued 0x20 [5] base)).nextTake = none ∧
    (parted (holds (.held 0) (issued 0x15 [5] base))).nextTake = none := by decide +kernel

/-- R135, R158: a PENDING ENABLE_WINDOW is taken before the window table's part of the cleanup, which then waits for it, and is
not taken after that part. -/
theorem test_command_take_around_the_window_part :
    let s := parted (holds (.held 0) (issued 0x13 [5] base))
    s.nextTake = some 0 ∧ (after .commandTake s).partDue 0 .windows = false ∧
    (after (.cleanupWindowPart 0) s).nextTake = none := by decide +kernel

/-- R133: a code not in the table. -/
theorem test_command_take_unknown : resultOf (after .commandTake (issued 0x06 [] base)) = some .badCommand := by
  decide +kernel

/-- R7. -/
theorem test_define_window :
    ((after .defineWindow (given .defineWindow [5, 0x10000, 12, 3, 1, 15, 1, 1, 2] base)).window 5).state = .defined ∧
    ((after .defineWindow (given .defineWindow [5, 0x10000, 12, 3, 1, 15, 1, 1, 2] base)).window 5).writeSet.members = [0] :=
  by decide +kernel

/-- R8: a DEFINED window takes a FILL read route. -/
theorem test_set_route :
    ((after .setRoute (given .setRoute [5, 0, 1] (withWindow { mirrored with state := .defined } base))).window 5).readRoute =
      .fill := by decide +kernel

/-- R9. -/
theorem test_set_access :
    ((after .setAccess (given .setAccess [5, 2, 4, 2, 0, 15] (withWindow { mirrored with state := .defined } base))).window
      5).policy = .holdToWrite := by decide +kernel

/-- R10. -/
theorem test_enable_window :
    ((after .enableWindow (given .enableWindow [5] (withWindow { mirrored with state := .defined } base))).window 5).state =
      .active := by decide +kernel

/-- R11. -/
theorem test_disable_window :
    ((after .disableWindow (given .disableWindow [5] (withWindow mirrored base))).window 5).state = .defined := by
  decide +kernel

/-- R17: the read held at the count of 64 is decided afresh in the same step, and now matches no window. -/
theorem test_disable_window_decides_held_head :
    (after .disableWindow (given .disableWindow [5] (heldAtLimit mirrored))).toMaster.get 0 =
      [⟨3, .refused, some .noRoute, []⟩] := by decide +kernel

/-- R12: with a transaction bound the window drains. -/
theorem test_retire_window :
    ((after .retireWindow (given .retireWindow [5, 0] (withWindow { mirrored with inFlight := 1 } base))).window 5).state =
      .retiring ∧
    resultOf (after .retireWindow (given .retireWindow [5, 0] (withWindow { mirrored with inFlight := 1 } base))) =
      some .accepted := by decide +kernel

/-- R19. -/
theorem test_window_retired :
    noticesOf (after (.windowRetired 5) (withWindow { mirrored with state := .retiring, retiringMaster := some 3 } base)) 3 =
      [.windowRetired 5] := by decide +kernel

/-- R15. -/
theorem test_set_default :
    (after .setDefault (given .setDefault [1, 3, 2] base)).defaultWrite = .target 2 := by decide +kernel

/-- R14, R165: ACTIVE 2, tier 1, holder 1, SOLE 1, 4 remaining, one waiting, nothing in flight. -/
theorem test_query_window :
    ((after .queryWindow (given .queryWindow [5] (waiting none (held 4 0 (withWindow mirrored base))))).slot 0).words =
      resultWords [2, 1, 1, 1, 4, 1, 0] := by decide +kernel

/-- R48. -/
theorem test_claim :
    (after .claim (given .claim [5, 2, 4095, 0, 4094] (withWindow mirrored base))).holder 5 = some 0 ∧
    resultOf (after .claim (given .claim [5, 2, 4095, 0, 4094] (withWindow mirrored base))) = some .granted := by
  decide +kernel

/-- R65: the wait limit 0 does not wait. -/
theorem test_claim_busy :
    resultOf (after .claim (given .claim [5, 2, 10, 0, 0] (held 4 0 (withWindow mirrored base)))) = some .busyWindow := by
  decide +kernel

/-- M0's lease on W5, 2 of 9 ticks remaining. -/
def ownLease (s : State) : State := s.setLease 5 (some ⟨0, .sole, 9, 2, 3, true, 14, MasterSet.empty, false⟩)

/-- R53: duration 0 is the lease's own. -/
theorem test_renew :
    ((after .renew (given .renew [5, 0] (ownLease base))).lease 5).map (fun l => (l.remaining, l.renewals, l.warned)) =
      some (9, 15, false) := by decide +kernel

/-- R55: the result word names the master handed to. -/
theorem test_release :
    ((after .release (given .release [5] (waiting none (ownLease base)))).slot 0).words = resultWords [2] := by
  decide +kernel

/-- R71. -/
theorem test_withdraw :
    (after .withdraw (given .withdraw [5] (base.setClaims [⟨5, 0, .sole, 1, 0, none, false⟩]))).claims = [] := by
  decide +kernel

/-- R56: the holder is told by whom. -/
theorem test_revoke :
    noticesOf (after .revoke (given .revoke [5] (held 4 0 base))) 1 = [.revoked 5 0] := by decide +kernel

/-- R44. -/
theorem test_set_tick :
    (after .setTick (given .setTick [15, 256] { base with time := ⟨1, 1, 1, TicksDue.none⟩ })).time =
      ⟨15, 256, 0, TicksDue.none⟩ := by decide +kernel

/-- R44: a divider of 257 is out of range. -/
theorem test_set_tick_bad_field : resultOf (after .setTick (given .setTick [15, 257] base)) = some .badField := by
  decide +kernel

/-- R96. -/
theorem test_set_target : ((after .setTarget (given .setTarget [3, 255, 15] base)).target 3).timeout = 255 := by
  decide +kernel

/-- R97: the count is reported and then cleared. -/
theorem test_query_target :
    ((after .queryTarget (given .queryTarget [3, 1] (base.setTarget 3 { base.target 3 with strays := 9 }))).slot 0).words =
      resultWords [0, 1, 0, 0, 0, 9, 64, 4] ∧
    ((after .queryTarget (given .queryTarget [3, 1] (base.setTarget 3 { base.target 3 with strays := 9 }))).target 3).strays =
      0 := by decide +kernel

/-- R111: nothing outstanding, so FENCED at once. -/
theorem test_fence_target :
    ((after .fenceTarget (given .fenceTarget [1] base)).target 1).state = .fenced ∧
    noticesOf (after .fenceTarget (given .fenceTarget [1] base)) 0 = [.fenceDone 1 .fenced] := by decide +kernel

/-- R115, R116: every UP master is told the state left. -/
theorem test_unfence_target :
    noticesOf (after .unfenceTarget (given .unfenceTarget [1] (targetAs 1 .faulted base))) 2 = [.targetRestored 1 .faulted] := by
  decide +kernel

/-- R113. -/
theorem test_fence_done :
    noticesOf (after (.fenceDone 1) (base.setTarget 1 { base.target 1 with
      state := .fencing, requesters := MasterSet.empty.insert 2 })) 2 = [.fenceDone 1 .fenced] := by decide +kernel

/-- R85: the frame to the target carries the xid at the head of the free list. -/
theorem test_xid_grant :
    (after (.xidGrant 1) (bound (read 0x10004 4) (.single 1 0x20004) (withWindow mirrored base))).toTarget.get 1 =
      [⟨0, .read, 0x20004, 4, []⟩] := by decide +kernel

/-- The mirrored write of M0 that waits at T1 and T2. -/
def mirrorWaiting : State :=
  let s := bound (write 0x10004 7) (.mirror 1 0x20004 2 0x30004 none) (withWindow mirrored base)
  s.setTarget 2 { s.target 2 with waiting := (s.target 2).waiting.insert 0 }

/-- R100: both legs leave in one happening. -/
theorem test_mirror_xid_grant :
    (after (.mirrorXidGrant 2) mirrorWaiting).toTarget.get 1 = [⟨0, .write, 0x20004, 4, [7, 0, 0, 0]⟩] ∧
    (after (.mirrorXidGrant 2) mirrorWaiting).toTarget.get 2 = [⟨0, .write, 0x30004, 4, [7, 0, 0, 0]⟩] := by decide +kernel

/-- R87. -/
theorem test_target_completion :
    (after (.targetCompletion 1 ⟨0, .ok, [1, 2, 3, 4]⟩) (outstanding 0 (withWindow mirrored base))).toMaster.get 0 =
      [⟨3, .ok, none, [1, 2, 3, 4]⟩] := by decide +kernel

/-- R92: three bytes for a read of four are a stray. -/
theorem test_stray :
    ((after (.targetCompletion 1 ⟨0, .ok, [1, 2, 3]⟩) (outstanding 0 (withWindow mirrored base))).target 1).strays = 1 := by
  decide +kernel

/-- R94. -/
theorem test_target_link_down :
    (after (.targetLinkDown 1) (outstanding 0 (withWindow mirrored base))).toMaster.get 0 = [⟨3, .targetLost, none, []⟩] ∧
    noticesOf (after (.targetLinkDown 1) (outstanding 0 (withWindow mirrored base))) 3 = [.targetFaulted 1 .linkDown] := by
  decide +kernel

/-- R80: the state stays FAULTED. -/
theorem test_target_link_trains :
    ((after (.targetLinkTrains 1) (linkAs 1 .down (targetAs 1 .faulted base))).target 1).link = .up ∧
    ((after (.targetLinkTrains 1) (linkAs 1 .down (targetAs 1 .faulted base))).target 1).state = .faulted := by decide +kernel

/-! ### States and operands that meet the statements' hypotheses

Each theorem is named for its statement, and its parts for the statement's clauses in order, at the ends of their ranges. -/

theorem witness_StepRunsTheFrontCommand :
    ({ base with pending := [.commandTake, .claim] } : State).pending = Instr.commandTake :: [.claim] := rfl

theorem witness_IdleRunEmitsTheTick :
    let s : State := { base with time := ⟨0, 2, 0, TicksDue.none⟩ }
    (s.rstN = .released ∧ s.pending = [] ∧ s.settled ∧ s.time.prescale < s.time.period) ∧
    s.time.prescale + 1 < s.time.period ∧ ¬(held 5 0 s).settled ∧ ¬(after (.tick .emit) s).settled := by decide +kernel

theorem witness_ResetPinHoldsThePart :
    ({ base with rstN := .asserted } : State).rstN = .asserted ∧ Instr.commandTake ≠ .deviceReset ∧
    Instr.commandTake ≠ .rstNRelease ∧ base.rstN = .released := by decide

theorem witness_TickArrivesOnceAtEveryRecord :
    let s := after (.tick .emit) base
    let owing := after (.tick .emit) (waiting none (held 5 0 (outstanding 0 base)))
    base.rstN = .released ∧ base.time.due.leases = 0 ∧ base.time.due.targets.get 3 = 0 ∧
    (s.time.due.leases = 0 + 1 ∧ s.leasesSettled ∧ s.time.due.targets.get 0 = 0 + 1 ∧ s.targetSettled 0) ∧
    (owing.time.due.leases ≠ 0 ∧ owing.claims.Pairwise WaitingClaim.apart ∧ ¬owing.leasesSettled) ∧
    (owing.time.due.targets.get 1 ≠ 0 ∧ ¬owing.targetSettled 1) := by decide +kernel

def leaseOf (remaining warnAt : Nat) (owed : Bool) : Lease := ⟨1, .sole, 9, remaining, warnAt, false, 0, MasterSet.empty, owed⟩

def recordOf (age : Nat) (owed : Bool) : OutRecord := ⟨0, 3, 0, some 5, .read, 0x20000, 4, age, none, owed⟩

theorem witness_CountdownsThatEndNothing :
    base.rstN = .released ∧
    (base.setLease 5 (some (leaseOf 2 0 false))).lease 5 = some (leaseOf 2 0 false) ∧
    ((held 2 0 base).lease 5 = some (leaseOf 2 0 true) ∧ 2 ≤ (leaseOf 2 0 true).remaining ∧ (leaseOf 2 0 true).warnAt = 0) ∧
    ((held 2 1 base).lease 5 = some (leaseOf 2 1 true) ∧ (leaseOf 2 1 true).remaining - 1 = (leaseOf 2 1 true).warnAt ∧
      (leaseOf 2 1 true).warned = false) ∧
    ((base.setTarget 1 { base.target 1 with records := Table.fill 16 (some (recordOf 63 false)) }).target 1).record 0 =
      some (recordOf 63 false) ∧
    (((outstanding 62 base).target 1).record 0 = some (recordOf 62 true) ∧
      min (62 + 1) 255 < ((outstanding 62 base).target 1).timeout) := by decide +kernel

def claimOfM2 (n : Option Nat) : WaitingClaim := ⟨5, 2, .write, 7, 3, n, true⟩

theorem witness_ExpiryHandsTheWindowOn :
    ((held 1 0 base).rstN = .released ∧ (held 1 0 base).lease 5 = some (leaseOf 1 0 true) ∧ (held 1 0 base).queueOf 5 = []) ∧
    (waiting none (held 1 0 base)).lease 5 = some (leaseOf 1 0 true) ∧
    (waiting none (held 1 0 base)).queueOf 5 = claimOfM2 none :: [] := by decide +kernel

theorem witness_ClaimCountdownAndLapse :
    (waiting none base).claims = [] ++ claimOfM2 none :: [] ∧
    (waiting (some 2) base).claims = [] ++ claimOfM2 (some 2) :: [] ∧ (claimOfM2 (some 2)).waitRemaining = some (1 + 1) ∧
    (waiting (some 1) base).claims = [] ++ claimOfM2 (some 1) :: [] ∧ (claimOfM2 (some 1)).owed = true ∧
    (∀ d ∈ ([] : List WaitingClaim) ++ [], d.isFor 5 2 = false) := by decide +kernel

theorem witness_TimeoutEndsTheTransaction :
    let s := outstanding 63 base
    let counted := s.setTarget 1 { s.target 1 with consecutive := 3 }
    let leg : OutRecord := { recordOf 63 true with kind := .write, leg := some ⟨1, .one⟩ }
    let legs := s.setTarget 1 { s.target 1 with records := (s.target 1).records.put 0 (some leg) }
    let two := s.setTarget 1 { s.target 1 with records := ((s.target 1).records.put 1 (some leg)) }
    (s.rstN = .released ∧ (s.target 1).record 0 = some (recordOf 63 true) ∧
      (s.target 1).state = .online ∧ (s.target 1).timeout ≠ 0 ∧ (s.target 1).timeout ≤ min (63 + 1) 255 ∧
      ¬((s.target 1).threshold ≤ min ((s.target 1).consecutive + 1) 255)) ∧
    ((counted.target 1).record 0 = some (recordOf 63 true) ∧ (counted.target 1).threshold ≠ 0 ∧
      (counted.target 1).threshold ≤ min ((counted.target 1).consecutive + 1) 255) ∧
    ((legs.target 1).record 0 = some leg ∧ leg.owed = true) ∧
    (((targetAs 1 .fencing two).target 1).record 0 = some (recordOf 63 true) ∧
      2 ≤ ((targetAs 1 .fencing two).target 1).outstanding) ∧
    (((targetAs 1 .fencing s).target 1).state = .fencing ∧ ((targetAs 1 .fencing s).target 1).outstanding = 1) ∧
    ((targetAs 1 .fenced s).target 1).record 0 = some (recordOf 63 true) ∧
    ((targetAs 1 .faulted s).target 1).record 0 = some (recordOf 63 true) := by decide +kernel

/-- M0's queue with this many real notices. -/
def queued (n : Nat) (o : Option Overflow) : State :=
  base.setUnit 0 { base.unit 0 with queue := ⟨List.replicate n ⟨0, .expired 5⟩, o⟩ }

theorem witness_PostingANotice :
    (State.reset.port 0).link = .down ∧
    ((queued 14 none).port 0).link = .up ∧ ((queued 14 none).port 0).cleanup = .clear ∧
    ((queued 14 none).unit 0).queue.real.length < 15 ∧ 15 ≤ ((queued 15 none).unit 0).queue.real.length ∧
    ((queued 15 (some ⟨0, 65535⟩)).unit 0).queue.overflow = some ⟨0, 65535⟩ := by decide +kernel

theorem witness_ClaimGrantedAtOnce :
    let s := given .claim [5, 1, 4095, 4095, 4094] (withWindow mirrored base)
    let a := args [5, 1, 4095, 4095, 4094]
    s.delivered 0 .claim a ∧ argNat a 0 = (5 : WindowId).val ∧ argNat a 1 = LeaseKind.sole.code ∧ 1 ≤ argNat a 2 ∧
    argNat a 2 ≤ 4095 ∧ argNat a 4 < argNat a 2 ∧ argNat a 3 ≤ 4095 ∧ (s.window 5).state = .active ∧
    (s.window 5).policy ≠ .none ∧ s.lease 5 = none ∧ (∀ c ∈ s.claims, c.window = 5 → c.claimant ≠ 0) := by decide +kernel

theorem witness_ClaimOfAHeldWindow :
    let a := args [5, 2, 1, 1, 0]
    let at_ := fun s => given .claim [5, 2, 1, 1, 0] (withWindow mirrored s)
    let s := at_ (held 4 0 base)
    (s.delivered 0 .claim a ∧ argNat a 0 = (5 : WindowId).val ∧ argNat a 1 = LeaseKind.write.code ∧ 1 ≤ argNat a 2 ∧
      argNat a 4 < argNat a 2 ∧ (s.window 5).state = .active ∧ (s.window 5).policy ≠ .none ∧
      s.lease 5 = some (leaseOf 4 0 true) ∧ (leaseOf 4 0 true).holder ≠ 0 ∧
      (∀ c ∈ s.claims, c.window = 5 → c.claimant ≠ 0) ∧ argNat a 3 ≠ 0 ∧ s.claims.length < 24) ∧
    (at_ (ownLease base)).holder 5 = some 0 ∧
    (∃ c ∈ (at_ ((held 4 0 base).setClaims [⟨5, 0, .sole, 1, 0, none, false⟩])).claims, c.window = 5 ∧ c.claimant = 0) ∧
    argNat (args [5, 2, 1, 0, 0]) 3 = 0 ∧
    (24 ≤ (at_ ((held 4 0 base).setClaims (List.replicate 24 (claimOfM2 none)))).claims.length ∧
      ∀ c ∈ (at_ ((held 4 0 base).setClaims (List.replicate 24 (claimOfM2 none)))).claims, c.window = 5 → c.claimant ≠ 0) := by
  decide +kernel

theorem witness_RenewExtendsTheLease :
    let a := args [5, 4]
    let s := given .renew [5, 4] (ownLease (withWindow { mirrored with ceiling := 14 } base))
    (s.delivered 0 .renew a ∧ argNat a 0 = (5 : WindowId).val ∧ argNat a 1 ≤ 4095 ∧ (s.holder 5 = some 0) ∧
      (∀ l ∈ s.lease 5, l.warnAt < argNat a 1) ∧ s.queueOf 5 = []) ∧
    (given .renew [5, 4] (held 4 0 base)).holder 5 ≠ some 0 ∧
    (4095 < argNat (args [5, 4096]) 1 ∧ (given .renew [5, 3] (ownLease base)).delivered 0 .renew (args [5, 3]) ∧
      1 ≤ argNat (args [5, 3]) 1 ∧ ∀ l ∈ (given .renew [5, 3] (ownLease base)).lease 5, argNat (args [5, 3]) 1 ≤ l.warnAt) ∧
    ((waiting none s).queueOf 5 ≠ [] ∧ ((waiting none s).window 5).ceiling ≠ 0 ∧
      ∀ l ∈ (waiting none s).lease 5, ((waiting none s).window 5).ceiling ≤ l.renewals) := by decide +kernel

theorem witness_ReleaseRevokeWithdrawAndHandoff :
    (let a := args [5]
      let s := given .release [5] (ownLease base)
      let r := given .revoke [5] (held 4 0 base)
      argNat a 0 = (5 : WindowId).val ∧
      (s.delivered 0 .release a ∧ (given .release [5] (held 4 0 base)).holder 5 ≠ some 0 ∧ s.holder 5 = some 0 ∧
        s.queueOf 5 = [] ∧ (waiting none s).queueOf 5 = claimOfM2 none :: []) ∧
      (r.delivered 0 .revoke a ∧ (given .revoke [5] base).lease 5 = none ∧ r.lease 5 = some (leaseOf 4 0 true) ∧
        r.queueOf 5 = [] ∧ (waiting none r).queueOf 5 = claimOfM2 none :: [])) ∧
    (let own : WaitingClaim := ⟨5, 0, .sole, 1, 0, none, false⟩
      let s := given .withdraw [5] (base.setClaims [claimOfM2 none, own])
      (s.delivered 0 .withdraw (args [5]) ∧ s.claims = [claimOfM2 none] ++ own :: [] ∧
        (∀ d ∈ [claimOfM2 none], d.isFor 5 0 = false) ∧ own.isFor 5 0 = true) ∧
      (∀ c ∈ (waiting none base).claims, c.isFor 5 0 = false) ∧
      base.queueOf 5 = [] ∧ (held 4 0 base).lease 5 ≠ none ∧
      ((waiting none base).lease 5 = none ∧ (waiting none base).queueOf 5 = claimOfM2 none :: [])) := by decide +kernel

theorem witness_DefineWindowFillsAFreeRecord :
    let l := [47, 0, 31, 3, 2, 15, 15, 1, 15]
    let a := args l
    ((given .defineWindow l base).delivered 0 .defineWindow a ∧ argNat a 0 = (47 : WindowId).val ∧ argNat a 3 ≤ 3 ∧
      argPolicy (argNat a 4) = some .holdToWrite ∧ argNat a 5 < 16 ∧ argNat a 6 < 16 ∧ argFlag (argNat a 7) = some true ∧
      argNat a 8 ≤ 15 ∧ ((given .defineWindow l base).window 47).state = .free ∧ 12 ≤ argNat a 2 ∧ argNat a 2 ≤ 31 ∧
      argNat a 1 % 2 ^ argNat a 2 = 0 ∧ argNat a 1 ≠ 0x100000000 - 2 ^ argNat a 2) ∧
    ((withWindow mirrored base).window 5).state ≠ .free ∧ argNat (args [47, 0, 11]) 2 < 12 ∧ 31 < argNat (args [47, 0, 32]) 2 ∧
    argNat (args [47, 0x800, 12]) 1 % 2 ^ 12 ≠ 0 ∧ argNat (args [47, 0xFFFFF000, 12]) 1 = 0x100000000 - 2 ^ 12 := by
  decide +kernel

theorem witness_SetRouteReplacesOneRoute :
    let rd := [5, 0, 3, 3, 0xFFFFF000]
    let wr := [5, 1, 4, 0, 0x1000, 3, 0x2000]
    let at_ := fun l => given .setRoute l (withWindow { mirrored with state := .defined } base)
    ((at_ rd).delivered 0 .setRoute (args rd) ∧ argNat (args rd) 0 = (5 : WindowId).val ∧ argNat (args rd) 1 = 0 ∧
      argReadRoute (argNat (args rd) 2) (argNat (args rd) 3) ((args rd).get 4) = some (.target 3 0xFFFFF000) ∧
      ((at_ rd).window 5).state = .defined ∧ (ReadRoute.target 3 0xFFFFF000).geometryOk 12 = true ∧
      (ReadRoute.target 3 0xFFFFF800).geometryOk 12 = false) ∧
    ((given .setRoute rd (withWindow mirrored base)).window 5).state ≠ .defined ∧
    ((at_ wr).delivered 0 .setRoute (args wr) ∧ argNat (args wr) 1 = 1 ∧
      argWriteRoute (argNat (args wr) 2) (argNat (args wr) 3) ((args wr).get 4) (argNat (args wr) 5) ((args wr).get 6) =
        some (.mirror 0 0x1000 3 0x2000) ∧
      (WriteRoute.mirror 0 0x1000 3 0x2000).geometryOk 12 = true ∧
      (WriteRoute.mirror 3 0x1000 3 0x2000).geometryOk 12 = false) := by decide +kernel

theorem witness_AccessEnableAndDisable :
    let a := args [5, 15, 0, 0, 1, 15]
    let defined := withWindow { mirrored with state := .defined } base
    let s := given .setAccess [5, 15, 0, 0, 1, 15] defined
    (argNat a 0 = (5 : WindowId).val ∧ s.delivered 0 .setAccess a ∧ argNat a 1 < 16 ∧ argNat a 2 < 16 ∧
      argPolicy (argNat a 3) = some .none ∧ argFlag (argNat a 4) = some true ∧ argNat a 5 ≤ 15 ∧
      (s.window 5).state = .defined ∧ s.lease 5 = none ∧ (held 4 0 s).lease 5 ≠ none ∧
      ((given .setAccess [5, 15, 0, 0, 1, 15] (withWindow mirrored base)).window 5).state ≠ .defined) ∧
    ((given .enableWindow [5] defined).delivered 0 .enableWindow (args [5]) ∧
      ((given .enableWindow [5] defined).window 5).state = .defined) ∧
    ((given .disableWindow [5] (withWindow mirrored base)).delivered 0 .disableWindow (args [5]) ∧
      ((given .disableWindow [5] (withWindow mirrored base)).window 5).state = .active) := by decide +kernel

theorem witness_RetireTakesAWindowOut :
    let s := given .retireWindow [5, 1] (withWindow mirrored base)
    let h := given .retireWindow [5, 0] (withWindow { mirrored with inFlight := 64 } (held 4 0 base))
    let f := given .retireWindow [5, 1] (withWindow mirrored (waiting none (held 4 0 base)))
    (s.delivered 0 .retireWindow (args [5, 1]) ∧ argNat (args [5, 1]) 0 = (5 : WindowId).val ∧
      argFlag (argNat (args [5, 1]) 1) = some true ∧ (s.window 5).state = .active ∧ s.lease 5 = none ∧
      (s.window 5).inFlight = 0) ∧
    (h.delivered 0 .retireWindow (args [5, 0]) ∧ argFlag (argNat (args [5, 0]) 1) = some false ∧ h.lease 5 ≠ none ∧
      (h.window 5).inFlight ≠ 0) ∧
    (f.delivered 0 .retireWindow (args [5, 1]) ∧ f.lease 5 = some (leaseOf 4 0 true) ∧
      f.queueOf 5 = claimOfM2 none :: [] ∧ (f.window 5).inFlight = 0 ∧
      noticesOf (after .retireWindow f) 1 = [.revoked 5 0] ∧ noticesOf (after .retireWindow f) 2 = [.claimLapsed 5 .retired]) := by
  decide +kernel

theorem witness_TheLastFallFreesARetiringWindow :
    let at_ := fun n k => withWindow { mirrored with state := .retiring, inFlight := n, retiringMaster := k } base
    ((withWindow mirrored base).window 5).state ≠ .retiring ∧ 2 ≤ ((at_ 2 none).window 5).inFlight ∧
    (((at_ 1 none).window 5).state = .retiring ∧ ((at_ 1 none).window 5).inFlight = 1 ∧
      ((at_ 1 none).window 5).retiringMaster = none ∧ ((at_ 1 (some 3)).window 5).retiringMaster = some 3) ∧
    ((at_ 0 none).rstN = .released ∧ ((at_ 0 none).window 5).inFlight = 0 ∧ ((at_ 1 none).window 5).inFlight ≠ 0 ∧
      ((at_ 0 (some 3)).window 5).retiringMaster = some 3) := by decide +kernel

theorem witness_AHeldHeadIsDecidedAfresh :
    let s := heldAtLimit mirrored
    let r := { read 0x10000 4 with binding := .unbound true }
    ((s.port 0).inbound = r :: [] ∧ r.binding = .unbound true ∧ s.rstN = .released ∧ inControlPage r.address = false) ∧
    (∀ k ∈ (s.port 1).inbound, k.binding ≠ .unbound true) ∧
    ((s.setWindow 5 mirrored).window 5).inFlight < (s.window 5).inFlight ∧
    (∀ w, (s.window w).inFlight ≤ (s.window w).inFlight) := by decide +kernel

theorem witness_TheFirstChecksOfDeliveredCommands :
    let w := withWindow { mirrored with policy := .none } base
    let retiring := withWindow { mirrored with state := .retiring, inFlight := 1 } base
    ((given .defineWindow [48] base).delivered 0 .defineWindow (args [48]) ∧
      (given .revoke [48] base).delivered 0 .revoke (args [48]) ∧ 48 ≤ argNat (args [48]) 0 ∧
      argNat (args [47]) 0 < 48) ∧
    ((given .unfenceTarget [4] base).delivered 0 .unfenceTarget (args [4]) ∧ 4 ≤ argNat (args [4]) 0) ∧
    ((given .defineWindow [47, 0, 0, 4] base).delivered 0 .defineWindow (args [47, 0, 0, 4]) ∧
      3 < argNat (args [47, 0, 0, 4]) 3 ∧ 2 < argNat (args [0, 0, 0, 0, 3]) 4 ∧ 15 < argNat (args [0, 0, 0, 0, 0, 16]) 5 ∧
      15 < argNat (args [0, 0, 0, 0, 0, 0, 16]) 6 ∧ 1 < argNat (args [0, 0, 0, 0, 0, 0, 0, 2]) 7 ∧
      15 < argNat (args [0, 0, 0, 0, 0, 0, 0, 0, 16]) 8) ∧
    ((given .setRoute [5, 2] base).delivered 0 .setRoute (args [5, 2]) ∧ 1 < argNat (args [5, 2]) 1 ∧
      4 < argNat (args [5, 0, 5]) 2 ∧ argNat (args [5, 0, 4]) 2 = 4 ∧ argNat (args [5, 1, 1]) 2 = 1 ∧
      3 < argNat (args [5, 0, 3, 4]) 3 ∧ 3 < argNat (args [5, 1, 4, 0, 0, 4]) 5) ∧
    ((given .setAccess [5, 16] base).delivered 0 .setAccess (args [5, 16]) ∧ 15 < argNat (args [5, 16]) 1) ∧
    ((given .retireWindow [5, 2] base).delivered 0 .retireWindow (args [5, 2]) ∧ 1 < argNat (args [5, 2]) 1) ∧
    ((given .retireWindow [5, 1] retiring).delivered 0 .retireWindow (args [5, 1]) ∧
      ((given .retireWindow [5, 1] retiring).window 5).state = .retiring ∧
      ((given .retireWindow [5, 1] base).window 5).state = .free) ∧
    ((given .claim [5, 3] base).delivered 0 .claim (args [5, 3]) ∧ argNat (args [5, 3]) 1 = 3 ∧
      ¬(argNat (args [5, 1, 4096]) 2 ≤ 4095) ∧ ¬(argNat (args [5, 1, 1, 0, 1]) 4 < argNat (args [5, 1, 1, 0, 1]) 2)) ∧
    ((given .claim [5, 1, 1, 4095, 0] w).delivered 0 .claim (args [5, 1, 1, 4095, 0]) ∧
      1 ≤ argNat (args [5, 1, 1, 4095, 0]) 2 ∧ argNat (args [5, 1, 1, 4095, 0]) 3 ≤ 4095 ∧
      argNat (args [5, 1, 1, 4095, 0]) 4 < argNat (args [5, 1, 1, 4095, 0]) 2 ∧ (w.window 5).state = .active ∧
      (w.window 5).policy = .none ∧ (base.window 5).state = .free) := by decide +kernel

theorem witness_SettingsCommands :
    ((given .setDefault [0, 3, 3] base).delivered 0 .setDefault (args [0, 3, 3]) ∧
      argDefaultRoute (argNat (args [0, 3, 3]) 1) (argNat (args [0, 3, 3]) 2) = some (.target 3) ∧
      argDefaultRoute (argNat (args [1, 0]) 1) (argNat (args [1, 0]) 2) = some .deny ∧ argNat (args [1, 0]) 0 = 1 ∧
      1 < argNat (args [2]) 0 ∧ argNat (args [0, 4]) 1 ≠ 3 ∧ 3 < argNat (args [0, 3, 4]) 2) ∧
    ((given .setTick [15, 256] base).delivered 0 .setTick (args [15, 256]) ∧ argNat (args [15, 256]) 1 ≤ 256 ∧
      15 < argNat (args [16, 1]) 0 ∧ argNat (args [15, 0]) 1 = 0 ∧ 256 < argNat (args [0, 257]) 1) ∧
    ((given .setTarget [3, 255, 15] base).delivered 0 .setTarget (args [3, 255, 15]) ∧
      argNat (args [3, 255, 15]) 0 = (3 : TargetId).val ∧ argNat (args [3, 255, 15]) 1 ≤ 255 ∧
      argNat (args [3, 255, 15]) 2 ≤ 15 ∧ 255 < argNat (args [3, 256, 0]) 1 ∧ 15 < argNat (args [3, 0, 16]) 2 ∧
      3 < argNat (args [4, 0, 0]) 0) := by decide +kernel

theorem witness_QueriesReport :
    ((given .queryWindow [47] base).delivered 0 .queryWindow (args [47]) ∧ argNat (args [47]) 0 = (47 : WindowId).val ∧
      (given .queryWindow [47] base).lease 47 = none ∧ (held 4 0 base).lease 5 = some (leaseOf 4 0 true)) ∧
    ((given .queryTarget [3, 1] base).delivered 0 .queryTarget (args [3, 1]) ∧ argNat (args [3, 1]) 0 = (3 : TargetId).val ∧
      argNat (args [3, 1]) 1 = 1 ∧ argNat (args [3, 0]) 1 = 0 ∧ 1 < argNat (args [3, 2]) 1) := by decide +kernel

theorem witness_FenceTargetAndItsDrain :
    let s := given .fenceTarget [1] base
    let b := given .fenceTarget [1] (outstanding 0 base)
    (s.delivered 0 .fenceTarget (args [1]) ∧ argNat (args [1]) 0 = (1 : TargetId).val ∧ (s.target 1).state = .online ∧
      (s.target 1).outstanding = 0) ∧
    ((targetAs 1 .faulted b).target 1).state = .faulted ∧ ((targetAs 1 .faulted b).target 1).outstanding ≠ 0 ∧
    (((targetAs 1 .fencing b).target 1).state = .fencing ∧ ((targetAs 1 .fencing b).target 1).requesters.get 0 = false) ∧
    (b.setTarget 1 { b.target 1 with state := .fencing, requesters := everyone }).target 1 =
      { b.target 1 with state := .fencing, requesters := everyone } ∧
    ((targetAs 1 .fenced s).target 1).state = .fenced ∧
    ((targetAs 1 .fencing base).rstN = .released ∧ ((targetAs 1 .fencing base).target 1).outstanding = 0) := by
  decide +kernel

theorem witness_UnfenceTargetRestores :
    let s := given .unfenceTarget [1] base
    (s.delivered 0 .unfenceTarget (args [1]) ∧ argNat (args [1]) 0 = (1 : TargetId).val ∧ (s.target 1).state = .online) ∧
    (((targetAs 1 .fencing s).target 1).state = .fencing ∧ ((targetAs 1 .fencing s).target 1).link ≠ .down) ∧
    (((linkAs 1 .training (targetAs 1 .fenced s)).target 1).state = .fenced ∧
      ((linkAs 1 .training (targetAs 1 .fenced s)).target 1).link ≠ .down) ∧
    (((targetAs 1 .faulted s).target 1).state = .faulted ∧ ((targetAs 1 .faulted s).target 1).link = .up) ∧
    ((linkAs 1 .down (targetAs 1 .fenced s)).target 1).link = .down ∧
    ((linkAs 1 .down (targetAs 1 .faulted s)).target 1).link = .down := by decide +kernel

theorem witness_AWaitingHeadIsReexamined :
    let at_ := fun route => bound (read 0x10000 4) route (withWindow mirrored base)
    let r := fun route => { read 0x10000 4 with binding := .bound ⟨0, some 5, route⟩ }
    ((at_ (.single 1 0x20000)).port 0).inbound = r (.single 1 0x20000) :: [] ∧
    ((at_ (.mirror 1 0 2 0 none)).port 0).inbound = r (.mirror 1 0 2 0 none) :: [] ∧
    ((at_ (.mirror 1 0 2 0 (some .two))).port 0).inbound = r (.mirror 1 0 2 0 (some .two)) :: [] ∧
    ((at_ (.single 1 0x20000)).target 1).waiting.get 0 = true := by decide +kernel

theorem witness_RefusedCommandsChangeNothing :
    let s := given .claim [48] base
    let w := given .queryWindow [48] (heldAtLimit mirrored)
    ((deliveredBy .claim = some .claim ∧ s.delivered 0 .claim (args [48]) ∧ resultOf (after .claim s) = some .badIndex ∧
      Result.badIndex.accepts = false) ∧ exec .claim s = .next (after .claim s)) ∧
    ((deliveredBy .queryWindow = some .queryWindow ∧ w.delivered 0 .queryWindow (args [48]) ∧
      resultOf (after .queryWindow w) = some .badIndex) ∧ exec .queryWindow w = .next (after .queryWindow w)) := by
  refine ⟨⟨by decide +kernel, rfl⟩, by decide +kernel, rfl⟩

theorem witness_ADiscardedResultLeavesTheEffect :
    let s := given .claim [5, 2, 10, 0, 0] (withWindow mirrored base)
    (deliveredBy .claim = some .claim ∧ s.delivered 0 .claim (args [5, 2, 10, 0, 0])) ∧
    exec .claim s = .next (after .claim s) := by
  refine ⟨by decide +kernel, rfl⟩

/-- The slots of M0 and M3 both hold this code. -/
def bothIssued (code : BitVec 8) : State :=
  (issued code [] base).setSlot 3 { Slot.idleSlot with state := .pending, code := code }

theorem witness_TakeSetupTakesAnOpenRight :
    let s := bothIssued 0x01
    (s.takes 0 0x01 ∧ s.engine.setup = .open) ∧ (after .commandTake s).takes 3 0x01 ∧ (3 : MasterId) ≠ 0 ∧
    (holds (.held 0) s).takes 0 0x01 ∧ (holds (.held 2) s).takes 0 0x01 ∧ (holds .closed s).takes 0 0x01 := by decide +kernel

theorem witness_HandAndCloseSetup :
    let at_ := fun l => holds (.held 0) (issued 0x02 l base)
    ((at_ [4]).engine.setup = .held 0 ∧ (at_ [4]).takes 0 0x02 ∧ 3 < argNat ((at_ [4]).slot 0).args 0) ∧
    ((at_ [0]).takes 0 0x02 ∧ argNat ((at_ [0]).slot 0).args 0 = (0 : MasterId).val) ∧
    ((at_ [3]).takes 0 0x02 ∧ argNat ((at_ [3]).slot 0).args 0 = (3 : MasterId).val ∧ ((at_ [3]).port 3).link = .up ∧
      (((at_ [3]).setPort 3 MasterPort.resetPort).port 3).link = .down) ∧
    (holds (.held 0) (issued 0x04 [] base)).takes 0 0x04 := by decide +kernel

theorem witness_DropSetupOpensTheRight :
    let s := issued 0x03 [] base
    ((holds (.held 0) s).takes 0 0x03 ∧ (holds (.held 2) s).takes 0 0x03 ∧ (holds .closed s).takes 0 0x03) ∧
    (s.engine.setup = .open ∧ s.rstN = .released ∧ s.nextTake = some 0) ∧
    (commandOf 0x03 = some .dropSetup ∧ Command.dropSetup.permission = .setup) ∧
    (commandOf 0x33 = some .fenceTarget ∧ Command.fenceTarget.permission = .fence) := by decide +kernel

theorem witness_QuerySetupReportsTheRight :
    let s := issued 0x05 [] base
    (s.takes 0 0x05 ∧ s.engine.setup = .open) ∧ (holds (.held 3) s).takes 0 0x05 ∧ (holds .closed s).takes 0 0x05 := by
  decide +kernel

theorem witness_CommandTakeServesInTurn :
    let s := bothIssued 0x33
    (given .claim [] base).engine.underWay ≠ none ∧ (∀ m, base.takeable m = false) ∧
    (s.engine.underWay = none ∧ s.takeable 0 = true ∧
      ∀ k, s.takeable k = true → ((0 : MasterId) - s.engine.lastServed - 1).val ≤ (k - s.engine.lastServed - 1).val) ∧
    (s.rstN = .released ∧ s.nextTake = some 0 ∧ commandOf (s.slot 0).code = some .fenceTarget) ∧
    ((parted s).takeable 0 = false ∧ (parted s).takeable 3 = true ∧ ((parted s).slot 0).state = .pending ∧
      (parted (issued 0x34 [] base)).takeable 0 = true) ∧
    (let pending := holds (.held 0) (issued 0x13 [5] base)
      let late := pending.setPort 0 { pending.port 0 with cleanup := .underWay [.engine] }
      (pending.slot 0).state = .pending ∧ commandOf 0x13 = some .enableWindow ∧ pending.engine.setup = .held 0 ∧
      ((parted pending).port 0).cleanup = .underWay allBlocks ∧ (parted pending).takeable 0 = true ∧
      (late.port 0).cleanup = .underWay [.engine] ∧ late.takeable 0 = false) ∧
    commandOf 0x00 = none ∧ (holds .closed (issued 0x10 [] base)).nextTake = some 0 ∧
    ((holds (.held 2) s).engine.setup = .held 2 ∧ Command.fenceTarget.engineOwned = false) := by decide +kernel

theorem witness_TheMatchAndTheLeaseCheck :
    (held 4 0 base).lease 5 = some (leaseOf 4 0 true) ∧ (leaseOf 4 0 true).kind = .sole ∧ (leaseOf 4 0 true).holder ≠ 0 ∧
    (base.setLease 5 (some { leaseOf 4 0 true with kind := .write })).lease 5 = some { leaseOf 4 0 true with kind := .write } ∧
    (withWindow { mirrored with policy := .holdToWrite } base).lease 5 = none := by decide +kernel

theorem witness_DecisionsThatCompleteAtOnce :
    let s := fun r w => headed r (withWindow w base)
    let rd := read 0x10FFF 1
    ((s (read 0xFFFFF002 4) mirrored).decides 0 (read 0xFFFFF002 4) ∧ inControlPage 0xFFFFF002 = true) ∧
    ((s (read 0xFFFF 1) mirrored).matchWindow 0xFFFF = none ∧ (s (read 0xFFFF 1) mirrored).defaultRoute .read = .deny) ∧
    ((s rd mirrored).decides 0 rd ∧ inControlPage rd.address = false ∧ (s rd mirrored).matchWindow rd.address = some 5) ∧
    (((s rd { mirrored with readSet := MasterSet.empty }).window 5).setFor .read).get 0 = false ∧
    (s (write 0x10000 0) { mirrored with policy := .holdToWrite }).leaseCheck 0 5 .write = some .notHolder ∧
    ((held 4 0 (s rd mirrored)).leaseCheck 0 5 .read = some .heldElsewhere ∧
      ((held 4 0 (s rd mirrored)).window 5).contention = true) ∧
    ((s rd { mirrored with readRoute := .deny }).reaches 0 rd 5 ∧ (s rd { mirrored with readRoute := .fill }).reaches 0 rd 5) ∧
    ((s (write 0x10000 0) { mirrored with writeRoute := .deny }).reaches 0 (write 0x10000 0) 5 ∧
      (s (write 0x10000 0) { mirrored with writeRoute := .discard }).reaches 0 (write 0x10000 0) 5) := by decide +kernel

theorem witness_ASingleTargetRequestIsBound :
    let rd := read 0x10FFF 1
    let s := fun n => headed rd (withWindow { mirrored with inFlight := n } base)
    ((s 63).port 0).inbound = rd :: [] ∧ ((s 63).reaches 0 rd 5 ∧ ((s 63).window 5).readRoute = .target 1 0x20000) ∧
    (((s 63).target 1).state = .online ∧ ((s 63).window 5).inFlight < 64) ∧
    ((s 64).reaches 0 rd 5 ∧ 64 ≤ ((s 64).window 5).inFlight) ∧
    ((headed rd { base with defaultRead := .target 1 }).decides 0 rd ∧
      (headed rd { base with defaultRead := .target 1 }).matchWindow rd.address = none) ∧
    ((targetAs 1 .faulted (s 0)).target 1).state = .faulted ∧ ((targetAs 1 .fencing (s 0)).target 1).state = .fencing := by
  decide +kernel

theorem witness_AMirrorWriteIsBoundByItsTargets :
    let w := write 0x10000 7
    let s := fun n => headed w (withWindow { mirrored with inFlight := n } base)
    (((s 63).port 0).inbound = w :: [] ∧ (s 63).reaches 0 w 5 ∧ w.kind = .write ∧
      ((s 63).window 5).writeRoute = .mirror 1 0x20000 2 0x30000 ∧ ((s 63).target 1).state = .online ∧
      ((s 63).target 2).state = .online ∧ ((s 63).window 5).inFlight < 64) ∧
    (targetAs 2 .fenced (s 63)).reaches 0 w 5 ∧ (targetAs 1 .fenced (s 63)).reaches 0 w 5 ∧
    ((s 64).reaches 0 w 5 ∧ 64 ≤ ((s 64).window 5).inFlight) ∧
    (targetAs 2 .fenced (targetAs 1 .faulted (s 63))).reaches 0 w 5 ∧
    (targetAs 2 .fenced (targetAs 1 .fencing (s 63))).reaches 0 w 5 := by decide +kernel

theorem witness_PlainControlPageAccesses :
    let s := fun r => headed r base
    ((s (read 0xFFFFF808 4)).decides 0 (read 0xFFFFF808 4) ∧ inControlPage 0xFFFFF808 = true ∧
      (read 0xFFFFF808 4).pageWord = .tickSettings) ∧
    ((s (read 0xFFFFFFFC 4)).decides 0 (read 0xFFFFFFFC 4) ∧ (read 0xFFFFFFFC 4).pageWord = .unnamed) ∧
    ((s (write 0xFFFFF040 1)).decides 0 (write 0xFFFFF040 1) ∧ (write 0xFFFFF040 1).pageWord = .resultCode) ∧
    ((base.slot 0).result = none ∧ ((State.answered base 0 .linkDown []).slot 0).result = some .linkDown) ∧
    ((base.unit 0).view = none ∧
      (base.setUnit 0 { base.unit 0 with view := some ⟨⟨0xFFFF, .overflow 65535⟩, 15⟩ }).unit 0 =
        { base.unit 0 with view := some ⟨⟨0xFFFF, .overflow 65535⟩, 15⟩ }) := by
  decide +kernel

theorem witness_EventPortReadPopsTheOldest :
    let r := read 0xFFFFF100 4
    ((headed r base).decides 0 r ∧ ((headed r base).unit 0).queue = ⟨[], none⟩) ∧
    ((headed r (queued 1 none)).decides 0 r ∧ ((headed r (queued 1 none)).unit 0).queue.real = ⟨0, .expired 5⟩ :: []) ∧
    ((headed r (queued 0 (some ⟨1, 2⟩))).decides 0 r ∧
      ((headed r (queued 0 (some ⟨1, 2⟩))).unit 0).queue = ⟨[], some ⟨1, 2⟩⟩) := by decide +kernel

theorem witness_ControlPageWritesTakeEffect :
    let go := write 0xFFFFF000 0x80000020
    let last := write 0xFFFFF028 9
    ((headed (write 0xFFFFF110 4) base).decides 0 (write 0xFFFFF110 4) ∧ (write 0xFFFFF110 4).data = wordBytes 4) ∧
    ((headed go base).decides 0 go ∧ (0x80000020#32).getLsbD 31 = true ∧ ((headed go base).slot 0).state = .idle ∧
      ((headed go (issued 0x20 [] base)).slot 0).state = .pending ∧ (0x7FFFFFFF#32).getLsbD 31 = false) ∧
    ((headed last base).decides 0 last ∧ last.address = 0xFFFFF004#32 + BitVec.ofNat 32 (4 * (9 : Fin 10).val)) := by
  decide +kernel

theorem witness_XidGrantForwardsTheNextHead :
    let r := { read 0x10004 4 with binding := .bound ⟨0, some 5, .single 1 0x20004⟩ }
    let s := bound (read 0x10004 4) (.single 1 0x20004) (withWindow mirrored base)
    (∀ m, base.eligible 1 m = false) ∧ (State.reset.target 1).link ≠ .up ∧
    (s.rstN = .released ∧ (s.target 1).state = .online ∧ (s.target 1).link = .up ∧
      (s.target 1).freeList = 0 :: (s.target 1).freeList.tail ∧ (s.port 0).inbound = r :: [] ∧
      (s.target 1).waiting.get 0 = true ∧
      ∀ k, s.eligible 1 k = true →
        ((0 : MasterId) - (s.target 1).lastServed - 1).val ≤ (k - (s.target 1).lastServed - 1).val) := by decide +kernel

theorem witness_MirrorGrantForwardsItsLegs :
    let r := fun k => { write 0x10004 7 with binding := .bound ⟨0, some 5, .mirror 1 0x20004 2 0x30004 k⟩ }
    let s := bound (write 0x10004 7) (.mirror 1 0x20004 2 0x30004 (some .two)) (withWindow mirrored base)
    (mirrorWaiting.rstN = .released ∧ (1 : TargetId) ≠ 2 ∧ (mirrorWaiting.port 0).inbound = r none :: [] ∧
      mirrorWaiting.nextGrant 1 = some 0 ∧ mirrorWaiting.nextGrant 2 = some 0 ∧
      (mirrorWaiting.target 1).freeList = 0 :: (mirrorWaiting.target 1).freeList.tail ∧
      (mirrorWaiting.target 2).freeList = 0 :: (mirrorWaiting.target 2).freeList.tail) ∧
    ((s.port 0).inbound = r (some .two) :: [] ∧ s.nextGrant 1 = some 0 ∧
      (s.target 1).freeList = 0 :: (s.target 1).freeList.tail) ∧
    (mirrorWaiting.eligible 1 0 = true ∧ (linkAs 2 .down mirrorWaiting).eligible 1 0 = false ∧
      (linkAs 1 .down mirrorWaiting).nextGrant 1 = none) := by decide +kernel

theorem witness_ACompletionEndsItsTransaction :
    let s := outstanding 0 (withWindow mirrored base)
    let leg : OutRecord := { recordOf 0 true with kind := .write, leg := some ⟨1, .one⟩ }
    let legs := s.setTarget 1 { s.target 1 with records := (s.target 1).records.put 1 (some leg) }
    (State.reset.target 1).link ≠ .up ∧ ((s.target 1).link = .up ∧ (s.target 1).record 1 = none) ∧
    (s.rstN = .released ∧ (s.target 1).record 0 = some (recordOf 0 true) ∧ (recordOf 0 true).leg = none ∧
      (s.target 1).state ≠ .fencing ∧ (recordOf 0 true).kind = .read ∧ [1, 2, 3, (4 : Byte)].length = (recordOf 0 true).length ∧
      [(1 : Byte)].length ≠ (recordOf 0 true).length) ∧
    ((legs.target 1).record 1 = some leg ∧ leg.leg = some ⟨1, .one⟩ ∧
      2 ≤ ((targetAs 1 .fencing legs).target 1).outstanding) ∧
    (((targetAs 1 .fencing s).target 1).state = .fencing ∧ ((targetAs 1 .fencing s).target 1).outstanding = 1 ∧
      ((targetAs 1 .fencing s).target 1).record 0 = some (recordOf 0 true)) := by decide +kernel

theorem witness_AMirrorWriteEndsWithItsLastLeg :
    let r := fun o => MirrorRecord.mk 0 3 0 5 none ⟨1, some 0, .pending⟩ ⟨2, some 0, o⟩
    let s := fun o => base.setTarget 1 { base.target 1 with mirrors := [r o] }
    (∀ o ∈ [LegOutcome.pending, .ended .ok, .ended .timeout, .ended .targetLost, .ended .targetError],
      ((s o).target 1).mirrors = [] ++ r o :: [] ∧ (r o).names .one 1 0 = true ∧ (r o).leg2.outcome = o) ∧
    ((MirrorRecord.mk 0 3 0 5 (some 2) ⟨1, some 0, .pending⟩ ⟨2, none, .skipped⟩).names .one 1 0 = true) ∧
    EndOutcome.ok.splitCause = none ∧ EndOutcome.timeout.splitCause = some .timeout := by decide +kernel

theorem witness_TargetLinkDownLosesEverything :
    let s := outstanding 0 (withWindow mirrored base)
    (State.reset.target 1).link ≠ .up ∧
    (s.rstN = .released ∧ (s.target 1).link = .up ∧ (s.target 1).state ≠ .fencing) ∧
    (((targetAs 1 .fencing s).target 1).link = .up ∧ ((targetAs 1 .fencing s).target 1).state = .fencing) := by
  decide +kernel

theorem witness_LinksTrain :
    State.reset.rstN = .released ∧ (State.reset.port 0).cleanup = .clear ∧ ((parted base).port 0).cleanup ≠ .clear := by
  decide +kernel

theorem witness_ARequestFrameIsTaken :
    let full := base.setPort 0 { base.port 0 with inbound := List.replicate 7 (read 0 4) }
    base.rstN = .released ∧ (State.reset.port 0).link = .down ∧
    ((full.port 0).link = .up ∧ (full.port 0).cleanup = .clear ∧ (full.port 0).inbound.length < 8 ∧
      (full.port 0).tags.get 3 = .free) ∧
    ((headed (read 0 4) base).port 0).tags.get 3 = .outstanding ∧
    (⟨3, .write, 0xFFFFFFFF, 1, [7]⟩ : RequestFrame).wellFormed = true := by decide +kernel

theorem witness_AMalformedRequestIsRefused :
    (base.rstN = .released ∧ (base.port 0).link = .up ∧ (base.port 0).cleanup = .clear ∧ (base.port 0).inbound.length < 8 ∧
      (base.port 0).tags.get 3 = .free) ∧
    (⟨3, .read, 0x3C, 5, []⟩ : RequestFrame).wellFormed = false := by decide +kernel

theorem witness_ACleanupStarts :
    let s := bound (read 0x10000 4) (.single 1 0x20000) (withWindow mirrored base)
    let r := { read 0x10000 4 with binding := .bound ⟨0, some 5, .single 1 0x20000⟩ }
    ((headed (read 0 4) base).rstN = .released ∧ ((headed (read 0 4) base).port 0).link = .up ∧
      ∀ k ∈ ((headed (read 0 4) base).port 0).inbound, k.boundWindow = none) ∧
    ((s.port 0).link = .up ∧ (s.port 0).cleanup = .clear ∧ (s.port 0).inbound = r :: [] ∧ r.boundWindow = some 5) ∧
    (State.reset.port 0).link = .down ∧ ((parted base).port 0).cleanup ≠ .clear := by decide +kernel

theorem witness_EveryBlockTakesItsPart :
    let last := base.setPort 0 { base.port 0 with cleanup := .underWay [.target 3] }
    ((parted base).rstN = .released ∧ ((parted base).port 0).cleanup = .underWay allBlocks ∧
      ∀ b ∈ [CleanupBlock.engine, .notices, .windows, .leases, .target 3], b ∈ allBlocks) ∧
    ((last.port 0).cleanup = .underWay [.target 3] ∧ CleanupBlock.target 3 ∈ [CleanupBlock.target 3]) ∧
    (parted base).engine.underWay = none ∧
    ((parted (given .claim [5] base)).engine.underWay = some ⟨0, .claim, args [5], false⟩ ∧
      CleanupBlock.leases ∈ Command.claim.owners (args [5]) ∧ CleanupBlock.windows ∉ Command.claim.owners (args [5])) := by
  decide +kernel

/-- M0's read stands outstanding at T1 and is about to be answered; M1 holds W5 and M2 waits for it. -/
def busy : State :=
  let s := waiting none (held 4 0 (outstanding 0 (withWindow mirrored base)))
  { (s.setPort 0 { s.port 0 with tags := (s.port 0).tags.put 3 .outstanding }) with
    pending := [.targetCompletion 1 ⟨0, .ok, [1, 2, 3, 4]⟩] }

def answeredBusy : State := after (.targetCompletion 1 ⟨0, .ok, [1, 2, 3, 4]⟩) { busy with pending := [] }

theorem busy_steps : step busy = .next answeredBusy := rfl

theorem witness_EveryStepKeepsTheWindowsLegal : busy.windowsOk := by decide +kernel

theorem witness_EveryStepKeepsTheLeasesLegal : busy.leasesOk := by decide +kernel

theorem witness_EveryStepKeepsTheXids : busy.xidsOk := by decide +kernel

theorem witness_EveryStepKeepsTheTargetsLegal : busy.targetsOk := by decide +kernel

theorem witness_TheInFlightCountIsTheTransactionsBound : busy.countsOk := by decide +kernel

theorem witness_EveryTagHasItsOneRequest : busy.tagsOk := by decide +kernel

theorem witness_EveryStepKeepsTheNoticesNumbered : busy.noticesOk := by decide +kernel

theorem witness_EveryStepKeepsThePortsAndSlotsLegal : busy.xidsOk ∧ busy.portsOk ∧ busy.engineOk := by decide +kernel

theorem witness_AClosedMapStaysAsItIs :
    (holds .closed busy).closedOk ∧ (holds .closed busy).pending.head? ≠ some .deviceReset := by decide +kernel

end Sys2Proof.Tests
end

section
/-! Moves: what a step can do to the traffic of the part, said once. A `Move` is one of the smallest changes
to the windows' counts, the inbound queues, the waiting sets, the records and the mirror records after which the part is again as
the chapters say; every command is a sequence of them, and an invariant of the traffic is proved over one move at a time. -/

namespace Sys2Proof.Machine

-- One proof after the other, as in the tests: together they would take too many threads, and their stacks too much memory.
set_option Elab.async false

/-! ### Changes that move no transaction -/

/-- How a window's record changes where no transaction begins or ends: it keeps what the safety properties ask of it, and its
in-flight count. -/
structure WindowRecord.Follows (r r' : WindowRecord) : Prop where
  ok : r.ok → r'.ok
  legs : r.writeRoute.legsDiffer = true → r'.writeRoute.legsDiffer = true
  count : r'.inFlight = r.inFlight
  free : (r.state = .free → r.inFlight = 0) → r'.state = .free → r'.inFlight = 0

theorem WindowRecord.Follows.refl (r : WindowRecord) : r.Follows r := ⟨id, id, rfl, id⟩

theorem WindowRecord.Follows.trans {r r' r'' : WindowRecord} (h : r.Follows r') (h' : r'.Follows r'') : r.Follows r'' :=
  ⟨h'.ok ∘ h.ok, h'.legs ∘ h.legs, h'.count.trans h.count, h'.free ∘ h.free⟩

/-- An outstanding record but for what a tick changes in it (R89). -/
def OutRecord.steady (r : OutRecord) : OutRecord := { r with age := 0, owed := false }

@[simp] theorem OutRecord.steady_count (r : OutRecord) : r.count.steady = r.steady := rfl

@[simp] theorem OutRecord.steady_owing (r : OutRecord) : r.owing.steady = r.steady := rfl

/-- Two states of a target port have the same free list, the same transactions outstanding, the same masters waiting and the
same mirror records. -/
structure TargetPort.SameTraffic (p q : TargetPort) : Prop where
  freeList : q.freeList = p.freeList
  records : ∀ x, (q.record x).map OutRecord.steady = (p.record x).map OutRecord.steady
  waiting : q.waiting = p.waiting
  mirrors : q.mirrors = p.mirrors

theorem TargetPort.SameTraffic.refl (p : TargetPort) : p.SameTraffic p := ⟨rfl, fun _ => rfl, rfl, rfl⟩

theorem TargetPort.SameTraffic.trans {p q r : TargetPort} (h : p.SameTraffic q) (h' : q.SameTraffic r) : p.SameTraffic r :=
  ⟨h'.freeList.trans h.freeList, fun x => (h'.records x).trans (h.records x), h'.waiting.trans h.waiting,
    h'.mirrors.trans h.mirrors⟩

/-- Two states of a master port differ in their tags at most. -/
def MasterPort.SameButTags (p q : MasterPort) : Prop := q = { p with tags := q.tags }

/-- No transaction begins, moves or ends between the two states; the windows' records and the time base stay as the chapters
say. -/
structure State.Calm (s t : State) : Prop where
  windows : ∀ w, (s.window w).Follows (t.window w)
  time : s.time.ok → t.time.ok
  targets : ∀ i, (s.target i).SameTraffic (t.target i)
  ports : ∀ m, (s.port m).SameButTags (t.port m)

variable {s t u : State}

/-- What the traffic is read off: where these four tables and the time base stand, nothing has moved. -/
theorem State.Calm.of_frame (hw : t.windows = s.windows := by simp) (ht : t.time = s.time := by simp)
    (hg : t.targets = s.targets := by simp) (hp : t.ports = s.ports := by simp) : s.Calm t where
  windows w := by rw [show t.window w = s.window w by simp [State.window, hw]]; exact .refl _
  time := by rw [ht]; exact id
  targets i := by rw [show t.target i = s.target i by simp [State.target, hg]]; exact .refl _
  ports m := by rw [show t.port m = s.port m by simp [State.port, hp]]; rfl

theorem State.Calm.refl (s : State) : s.Calm s := .of_frame rfl rfl rfl rfl

theorem State.Calm.trans (h : s.Calm t) (h' : t.Calm u) : s.Calm u where
  windows w := (h.windows w).trans (h'.windows w)
  time := h'.time ∘ h.time
  targets i := (h.targets i).trans (h'.targets i)
  ports m := by
    have a := h.ports m
    have b := h'.ports m
    unfold MasterPort.SameButTags at a b ⊢
    rw [b, a]

theorem State.Calm.setTime {b : TimeBase} (h : s.time.ok → b.ok) : s.Calm (s.setTime b) where
  windows _ := .refl _
  time := h
  targets _ := .refl _
  ports _ := rfl

theorem State.Calm.setWindow {w : WindowId} {r : WindowRecord} (h : (s.window w).Follows r) : s.Calm (s.setWindow w r) where
  windows w' := by
    rw [State.setWindow_window]
    split
    · next e => exact e ▸ h
    · exact .refl _
  time := id
  targets _ := .refl _
  ports _ := rfl

theorem State.Calm.setTarget {i : TargetId} {p : TargetPort} (h : (s.target i).SameTraffic p) : s.Calm (s.setTarget i p) where
  windows _ := .refl _
  time := id
  targets j := by
    rw [State.setTarget_target]
    split
    · next e => exact e ▸ h
    · exact .refl _
  ports _ := rfl

theorem State.Calm.setPort {m : MasterId} {p : MasterPort} (h : (s.port m).SameButTags p) : s.Calm (s.setPort m p) where
  windows _ := .refl _
  time := id
  targets _ := .refl _
  ports k := by
    rw [State.setPort_port]
    split
    · next e => exact e ▸ h
    · rfl

theorem State.Calm.complete (s : State) (m : MasterId) (f : CompletionFrame) : s.Calm (s.complete m f) :=
  (State.Calm.of_frame (s := s) (t := s.sendToMaster m f)).trans (.setPort rfl)

theorem State.Calm.post (s : State) (m : MasterId) (b : NoticeBody) : s.Calm (s.post m b) := .of_frame

theorem State.Calm.postEach (s : State) (ms : List MasterId) (b : NoticeBody) : s.Calm (s.postEach ms b) := .of_frame

theorem State.Calm.markContention (s : State) (w : WindowId) (m : MasterId) : s.Calm (s.markContention w m) := .of_frame

theorem State.Calm.markTag (s : State) (m : MasterId) (tag : Tag) : s.Calm (s.markTag m tag) := .setPort rfl

/-! ### Moves -/

/-- The smallest changes of the traffic. -/
inductive State.Move : State → State → Prop
  /-- Nothing of the traffic moves. -/
  | calm {s t : State} (h : s.Calm t) : Move s t
  /-- The part is reset (R161). -/
  | reset (s : State) (pin : ResetPin) (queue : List Instr) : Move s { State.reset with rstN := pin, pending := queue }
  /-- A head that no target holds leaves its queue (R22). -/
  | headLeaves {s : State} {m : MasterId} {r : Request} {held : Bool} (hr : s.head m = some r)
      (hu : r.binding = .unbound held) : Move s (s.leaveHead m)
  /-- A head is bound as its steering decides (R36). -/
  | headBound {s : State} {m : MasterId} {r : Request} {held : Bool} {b : Binding} (hr : s.head m = some r)
      (hu : r.binding = .unbound held) (hd : s.steered m r = .bind b) : Move s (s.bindHead m b)
  /-- A head is held at the count limit (R17). -/
  | headHeld {s : State} {m : MasterId} {r : Request} {held : Bool} (hr : s.head m = some r)
      (hu : r.binding = .unbound held) : Move s (s.holdHead m)
  /-- A waiting head is re-examined (R38). -/
  | reexamined (s : State) (i : TargetId) (m : MasterId) : Move s (s.reexamineHead i m)
  /-- A transaction ends (R88). -/
  | ended (s : State) (i : TargetId) (x : Xid) (o : EndOutcome) (data : List Byte) : Move s (s.endTransaction i x o data)
  /-- The arbiter grants a head with one target (R85). -/
  | granted (s : State) (i : TargetId) : Move s (s.xidGrant i)
  /-- The arbiter grants a two-leg mirror write (R100). -/
  | mirrorGranted (s : State) (i : TargetId) : Move s (s.mirrorXidGrant i)
  /-- A request joins its master's queue (R151). -/
  | enqueued {s : State} {m : MasterId} (f : RequestFrame) (h : (s.port m).takesRequests = true) :
      Move s (s.enqueue m (requestOf f))
  /-- A port reset begins a cleanup (R157). -/
  | cleanupStarts (s : State) (m : MasterId) : Move s (s.takeOwnPart m)
  /-- A link drop begins a cleanup (R157). -/
  | linkDrops (s : State) (m : MasterId) : Move s ((s.lowerPort m).takeOwnPart m)
  /-- A link drops at a port that is DOWN or under cleanup (R149). -/
  | lowered {s : State} {m : MasterId} (h : ¬((s.port m).link = .up ∧ (s.port m).cleanup = .clear)) : Move s (s.lowerPort m)
  /-- A master's link trains (R149). -/
  | trained (s : State) (m : MasterId) : Move s (s.setPort m (MasterPort.comeUp { s.port m with trained := true }))
  /-- A target port takes its part of a cleanup (R98). -/
  | targetCleaned {s : State} {m : MasterId} {i : TargetId} (h : CleanupBlock.target i ∈ (s.port m).cleanup.left) :
      Move s (s.cleanTarget m i)
  /-- A block leaves the set of those whose part is due (R158). -/
  | partTaken {s : State} {m : MasterId} {b : CleanupBlock} (h : b ∈ (s.port m).cleanup.left)
      (hw : ∀ i, b = .target i → (s.target i).waiting.get m = false) : Move s (s.partTaken m b)

/-- A sequence of moves. -/
def State.Moves : State → State → Prop := Relation.ReflTransGen State.Move

theorem State.Moves.refl (s : State) : s.Moves s := Relation.ReflTransGen.refl

theorem State.Moves.trans (h : s.Moves t) (h' : t.Moves u) : s.Moves u := Relation.ReflTransGen.trans h h'

theorem State.Move.moves (h : s.Move t) : s.Moves t := .single h

theorem State.Calm.moves (h : s.Calm t) : s.Moves t := .single (.calm h)

/-- What every move keeps true, a sequence of moves keeps true. -/
theorem State.Moves.keeps {P : State → Prop} (h : ∀ s t : State, P s → s.Move t → P t) (hm : s.Moves t) (hs : P s) : P t := by
  induction hm with
  | refl => exact hs
  | tail _ hm ih => exact h _ _ ih hm

/-- A fold whose every step is a sequence of moves is one. -/
theorem State.Moves.foldl {α : Type} {f : State → α → State} (h : ∀ (s : State) a, s.Moves (f s a)) (l : List α)
    (s : State) : s.Moves (l.foldl f s) := by
  induction l generalizing s with
  | nil => exact .refl _
  | cons a l ih => exact (h s a).trans (ih _)

/-! ### Steering decisions -/

theorem State.Moves.completeHead {m : MasterId} {r : Request} {held : Bool} (hr : s.head m = some r)
    (hu : r.binding = .unbound held) (f : CompletionFrame) : s.Moves (s.completeHead m f) :=
  (State.Move.headLeaves hr hu).moves.trans (State.Calm.complete _ m f).moves

theorem State.Calm.pageReadEffect (s : State) (m : MasterId) (w : PageWord) : s.Calm (s.pageReadEffect m w) := .of_frame

theorem State.Calm.pageWrite (s : State) (m : MasterId) (w : PageWord) (v : Word) (tag : Tag) :
    s.Calm (s.pageWrite m w v tag) := .of_frame

theorem State.Moves.pageAccess {m : MasterId} {r : Request} {held : Bool} (hr : s.head m = some r)
    (hu : r.binding = .unbound held) : s.Moves (s.pageAccess m r) := by
  unfold State.pageAccess
  split
  · exact (State.Calm.pageReadEffect s m r.pageWord).moves.trans (.completeHead (by simpa using hr) hu _)
  · exact (State.Calm.pageWrite s m r.pageWord _ r.tag).moves.trans (.completeHead (by simpa using hr) hu _)

/-- What a decision does, where a binding is the steered one. -/
theorem State.Moves.carryOut {m : MasterId} {r : Request} {held : Bool} {d : Decision} (hr : s.head m = some r)
    (hu : r.binding = .unbound held) (hd : ∀ b, d = .bind b → s.steered m r = .bind b) : s.Moves (s.carryOut m r d) := by
  cases d with
  | controlPage => exact .pageAccess hr hu
  | refuse code => exact .completeHead hr hu _
  | heldElsewhere w => exact (State.Moves.completeHead hr hu _).trans (State.Calm.markContention _ w m).moves
  | fill => exact .completeHead hr hu _
  | discard => exact .completeHead hr hu _
  | bind b => exact (State.Move.headBound hr hu (hd b rfl)).moves
  | waitAtLimit => exact (State.Move.headHeld hr hu).moves

/-- A decision that binds is the steered one. -/
theorem steered_of_decision {m : MasterId} {r : Request} {b : Binding} (h : s.decision m r = .bind b) :
    s.steered m r = .bind b := by
  unfold State.decision at h
  split at h
  · split at h <;> cases h
  · exact h

theorem State.Moves.decideHead (s : State) (m : MasterId) : s.Moves (s.decideHead m) := by
  unfold State.decideHead State.dueHead
  cases hr : s.head m with
  | none => exact .refl _
  | some r =>
    by_cases hu : r.binding = .unbound false
    · simpa [hu] using State.Moves.carryOut hr hu fun b => steered_of_decision
    · simpa [hu] using State.Moves.refl s

theorem State.Moves.redecideHead (s : State) (m : MasterId) : s.Moves (s.redecideHead m) := by
  unfold State.redecideHead State.heldHead
  cases hr : s.head m with
  | none => exact .refl _
  | some r =>
    by_cases hu : r.binding = .unbound true
    · simpa [hu] using State.Moves.carryOut hr hu fun b => id
    · simpa [hu] using State.Moves.refl s

theorem State.Moves.redecideHeads (s : State) : s.Moves s.redecideHeads := .foldl State.Moves.redecideHead _ _

theorem State.Moves.redecideAfterFalls (s before : State) : s.Moves (s.redecideAfterFalls before) := by
  unfold State.redecideAfterFalls
  split
  · exact .redecideHeads s
  · exact .refl _

/-! ### Target ports -/

theorem State.Calm.enterState (s : State) (i : TargetId) (st : TargetState) : s.Calm (s.enterState i st) :=
  .setTarget ⟨rfl, fun _ => rfl, rfl, rfl⟩

theorem State.Calm.tellRequesters (s : State) (i : TargetId) (b : NoticeBody) : s.Calm (s.tellRequesters i b) :=
  (State.Calm.postEach s _ b).trans (.setTarget ⟨rfl, fun _ => rfl, rfl, rfl⟩)

theorem State.Calm.finishDrain (s : State) (i : TargetId) : s.Calm (s.finishDrain i) := by
  unfold State.finishDrain
  split
  · exact (State.Calm.enterState s i _).trans (.tellRequesters _ i _)
  · exact .refl s

theorem State.Calm.countTimeout (s : State) (i : TargetId) : s.Calm (s.countTimeout i) :=
  .setTarget ⟨rfl, fun _ => rfl, rfl, rfl⟩

theorem State.Calm.countStray (s : State) (i : TargetId) : s.Calm (s.countStray i) :=
  .setTarget ⟨rfl, fun _ => rfl, rfl, rfl⟩

theorem State.Calm.setLink (s : State) (i : TargetId) (l : TargetLink) : s.Calm (s.setLink i l) :=
  .setTarget ⟨rfl, fun _ => rfl, rfl, rfl⟩

theorem State.Calm.noteAnswer (s : State) (i : TargetId) (a : AnswerStatus) : s.Calm (s.noteAnswer i a) := by
  cases a with
  | ok => exact .setTarget ⟨rfl, fun _ => rfl, rfl, rfl⟩
  | error => exact .refl s

theorem State.Moves.reexamine (s : State) (i : TargetId) : s.Moves (s.reexamine i) :=
  .foldl (fun s m => (State.Move.reexamined s i m).moves) _ _

theorem State.Moves.faultByThreshold (s : State) (i : TargetId) : s.Moves (s.faultByThreshold i) :=
  (State.Calm.enterState s i .faulted).moves.trans ((State.Moves.reexamine _ i).trans (State.Calm.postEach _ _ _).moves)

theorem State.Moves.endByTimeout (s : State) (i : TargetId) (x : Xid) : s.Moves (s.endByTimeout i x) := by
  have h := (State.Move.ended s i x .timeout []).moves.trans (State.Calm.countTimeout _ i).moves
  unfold State.endByTimeout
  dsimp only
  split
  · exact h.trans (.faultByThreshold _ i)
  · exact h.trans (State.Calm.finishDrain _ i).moves

theorem State.Moves.countAge (s : State) (i : TargetId) (x : Xid) : s.Moves (s.countAge i x) := by
  unfold State.countAge
  split
  · exact .refl _
  · next r hr =>
    split
    · have h : s.Calm (s.setTarget i { s.target i with records := (s.target i).records.put x (some r.count) }) := by
        refine .setTarget ⟨rfl, fun y => ?_, rfl, rfl⟩
        simp only [TargetPort.record, Table.get_put]
        split
        · next e => rw [← e, show (s.target i).records.get x = some r from hr]; rfl
        · rfl
      dsimp only
      split
      · exact h.moves.trans ((State.Moves.endByTimeout _ i x).trans (.redecideAfterFalls _ _))
      · exact h.moves
    · exact .refl _

theorem State.Moves.takeAnswer (s : State) (i : TargetId) (f : AnswerFrame) : s.Moves (s.takeAnswer i f) := by
  unfold State.takeAnswer State.endByAnswer
  split
  · exact (State.Calm.countStray s i).moves
  · split
    · exact (State.Calm.noteAnswer s i f.status).moves.trans ((State.Move.ended _ i f.xid _ _).moves.trans
        ((State.Calm.finishDrain _ i).moves.trans (.redecideAfterFalls _ _)))
    · exact (State.Calm.countStray s i).moves

theorem State.Moves.linkDown (s : State) (i : TargetId) : s.Moves (s.linkDown i) := by
  refine State.Moves.trans ?_ (.redecideAfterFalls _ s)
  have h : s.Moves (((s.setLink i .down).loseAll i).enterState i .faulted) :=
    (State.Calm.setLink s i .down).moves.trans
      ((State.Moves.foldl (fun s x => (State.Move.ended s i x .targetLost []).moves) _ _).trans
        (State.Calm.enterState _ i .faulted).moves)
  have h' := h.trans (.reexamine _ i)
  unfold State.linkLost
  dsimp only
  split
  · exact h'.trans ((State.Calm.postEach _ _ _).trans (.tellRequesters _ i _)).moves
  · exact h'.trans (State.Calm.postEach _ _ _).moves

theorem State.Calm.joinRequesters (s : State) (i : TargetId) (m : MasterId) : s.Calm (s.joinRequesters i m) :=
  .setTarget ⟨rfl, fun _ => rfl, rfl, rfl⟩

theorem State.Moves.startFence (s : State) (i : TargetId) (m : MasterId) : s.Moves (s.startFence i m) := by
  refine State.Moves.trans ?_ (.redecideAfterFalls _ s)
  unfold State.enterFence
  split
  · exact (State.Calm.enterState s i _).moves.trans ((State.Moves.reexamine _ i).trans (State.Calm.post _ m _).moves)
  · exact (State.Calm.enterState s i _).moves.trans
      ((State.Calm.joinRequesters _ i m).moves.trans (.reexamine _ i))

theorem State.Calm.restore (s : State) (i : TargetId) (st : TargetState) : s.Calm (s.restore i st) := by
  have h : s.Calm (s.setTarget i { s.target i with state := .online, consecutive := 0 }) :=
    .setTarget ⟨rfl, fun _ => rfl, rfl, rfl⟩
  exact h.trans (.postEach _ _ _)

end Sys2Proof.Machine
end

section
/-! Steps: every command is a sequence of moves, and so is every step. -/

namespace Sys2Proof.Machine

-- One proof after the other, as in the tests: together they would take too many threads, and their stacks too much memory.
set_option Elab.async false

variable {s t u : State}

/-! ### Ticks, leases and the time base -/

/-- A legal time base whose prescale count starts from 0 again. -/
theorem TimeBase.ok.restarted {b : TimeBase} (h : b.ok) (d : TicksDue) :
    TimeBase.ok { b with prescale := 0, due := d } := by
  obtain ⟨hs, hd, hd', hp⟩ := h
  exact ⟨hs, hd, hd', Nat.zero_lt_of_lt hp⟩

theorem State.Calm.emitTick (s : State) : s.Calm s.emitTick :=
  .setTime fun h => TimeBase.ok.restarted h _

theorem State.Calm.oweAt (s : State) (b : TickBlock) : s.Calm (s.oweAt b) := by
  cases b with
  | leases => exact .of_frame (by simp) (by simp) (State.oweAtLeases_frame s).2.2.2.2.2.1 (by simp)
  | target i =>
    refine .setTarget ⟨rfl, fun x => ?_, rfl, rfl⟩
    simp only [TargetPort.record, TargetPort.owing, Table.get_each]
    cases (s.target i).records.get x <;> simp

theorem State.Calm.takeOwedLeases (s : State) : s.Calm s.takeOwedLeases := .of_frame

theorem State.Moves.takeOwedAt (s : State) (b : TickBlock) : s.Moves (s.takeOwedAt b) := by
  cases b with
  | leases => exact (State.Calm.takeOwedLeases s).moves
  | target i => exact .foldl (fun s x => .countAge s i x) _ _

theorem State.Moves.tickArrives (s : State) (b : TickBlock) : s.Moves (s.tickArrives b) := by
  unfold State.tickArrives
  split
  · exact .refl _
  · have arrived : (s.takeOwedAt b).Calm ((s.takeOwedAt b).setTime
        { (s.takeOwedAt b).time with due := (s.takeOwedAt b).time.due.arrived b }) := .setTime fun h => h
    exact (State.Moves.takeOwedAt s b).trans (arrived.trans (.oweAt _ b)).moves

theorem State.Moves.tickPart (s : State) (part : TickPart) : s.Moves (s.tickPart part) := by
  cases part with
  | emit => exact (State.Calm.emitTick s).moves
  | arrive b => exact .tickArrives s b
  | lease w => exact (State.Calm.of_frame (t := s.countLease w)).moves
  | claim w m => exact (State.Calm.of_frame (t := s.countClaim w m)).moves
  | age i x => exact .countAge s i x

theorem State.Calm.refclk (s : State) : s.Calm s.refclk := by
  unfold State.refclk
  split
  · next hp => exact .setTime fun h => ⟨h.1, h.2.1, h.2.2.1, hp⟩
  · exact .emitTick s

/-! ### Window records (R2, R3, R7 to R12, R20) -/

theorem WriteRoute.legsDiffer_of_geometryOk {r : WriteRoute} {n : Nat} (h : r.geometryOk n = true) : r.legsDiffer = true := by
  cases r <;> simp_all [WriteRoute.geometryOk, WriteRoute.legsDiffer]

/-- A FREE record of a legal table has no retiring master. -/
theorem WindowRecord.ok.retiringMaster {r : WindowRecord} (h : r.ok) (hs : r.state ≠ .retiring) : r.retiringMaster = none := by
  obtain ⟨-, -, -, -, -, -, hm, -⟩ := h
  by_contra hn
  exact hs (hm hn)

/-- DEFINE_WINDOW's record, with a legal geometry and settings in range. -/
theorem WindowRecord.Follows.define {r : WindowRecord} {base : Word} {sizeLog2 tier : Nat} {policy : LeasePolicy}
    {readSet writeSet : MasterSet} {contention : Bool} {ceiling : Nat} (hs : r.state = .free)
    (hg : Machine.geometryOk base sizeLog2 = true) (ht : tier ≤ 3) (hc : ceiling ≤ Config.maxRenewals) :
    r.Follows { r with
      state := .defined, base := base, sizeLog2 := sizeLog2, tier := tier, policy := policy, readSet := readSet,
      writeSet := writeSet, contention := contention, ceiling := ceiling, readRoute := .deny, writeRoute := .deny } where
  ok h := ⟨by simp, fun _ => hg, fun _ => ⟨rfl, rfl⟩, ht, hc, h.2.2.2.2.2.1,
    fun hm => absurd (WindowRecord.ok.retiringMaster h (by simp [hs])) hm, by simp⟩
  legs _ := rfl
  count := rfl
  free _ := by simp

theorem takesClaims_of {st : WindowState} (h : st = .defined ∨ st = .active) : st.takesClaims = true := by
  simpa [WindowState.takesClaims] using h

/-- A settings change of a record that stays DEFINED or ACTIVE, with legal routes and a ceiling in range. -/
theorem WindowRecord.Follows.settings {r r' : WindowRecord} (hs : r.state.takesClaims = true) (hs' : r'.state.takesClaims = true)
    (hg : r'.base = r.base ∧ r'.sizeLog2 = r.sizeLog2 ∧ r'.tier = r.tier ∧ r'.retiringMaster = r.retiringMaster ∧
      r'.inFlight = r.inFlight)
    (hr : r'.readRoute = r.readRoute ∨ r'.readRoute.geometryOk r.sizeLog2 = true)
    (hw : r'.writeRoute = r.writeRoute ∨ r'.writeRoute.geometryOk r.sizeLog2 = true)
    (hc : r'.ceiling = r.ceiling ∨ r'.ceiling ≤ Config.maxRenewals) : r.Follows r' := by
  obtain ⟨hbase, hsize, htier, hmaster, hcount⟩ := hg
  have nf : r.state ≠ .free := by intro e; simp [e, WindowState.takesClaims] at hs
  have nr : r.state ≠ .retiring := by intro e; simp [e, WindowState.takesClaims] at hs
  have nf' : r'.state ≠ .free := by intro e; simp [e, WindowState.takesClaims] at hs'
  have nr' : r'.state ≠ .retiring := by intro e; simp [e, WindowState.takesClaims] at hs'
  refine ⟨fun h => ?_, fun h => ?_, hcount, fun _ e => absurd e nf'⟩
  · have hm := WindowRecord.ok.retiringMaster h nr
    obtain ⟨-, hgeo, hroutes, ht, hceil, hfl, -, -⟩ := h
    refine ⟨fun e => absurd e nf', fun _ => by rw [hbase, hsize]; exact hgeo nf, fun _ => ?_, by omega, by omega, by omega,
      fun e => absurd (hmaster.trans hm) e, fun e => absurd e nr'⟩
    rw [hsize]
    exact ⟨hr.elim (fun e => e ▸ (hroutes nf).1) id, hw.elim (fun e => e ▸ (hroutes nf).2) id⟩
  · exact hw.elim (fun e => e ▸ h) WriteRoute.legsDiffer_of_geometryOk

/-- A record that counts nothing may become FREE. -/
theorem WindowRecord.Follows.freed {r : WindowRecord} (h : r.inFlight = 0) : r.Follows WindowRecord.freeRecord where
  ok _ := by decide
  legs _ := rfl
  count := h.symm
  free _ _ := rfl

/-- A record that counts a transaction may leave the table by RETIRING. -/
theorem WindowRecord.Follows.retire {r : WindowRecord} (m : MasterId) (hs : r.state.takesClaims = true) (h : r.inFlight ≠ 0) :
    r.Follows { r with state := .retiring, retiringMaster := some m } where
  ok h' := by
    have nf : r.state ≠ .free := by intro e; simp [e, WindowState.takesClaims] at hs
    obtain ⟨-, hgeo, hroutes, ht, hceil, hfl, -, -⟩ := h'
    exact ⟨by simp, fun _ => hgeo nf, fun _ => hroutes nf, ht, hceil, hfl, by simp, fun _ => Nat.pos_of_ne_zero h⟩
  legs := id
  count := rfl
  free _ := by simp

theorem WindowRecord.Follows.cleanedFor (r : WindowRecord) (m : MasterId) : r.Follows (r.cleanedFor m) := by
  unfold WindowRecord.cleanedFor
  split
  · next hs =>
    exact ⟨fun ⟨hf, hg, hr, ht, hc, hl, _, hp⟩ =>
      ⟨fun e => by simp [hs.1] at e, hg, hr, ht, hc, hl, by simp, hp⟩, id, rfl, id⟩
  · exact .refl r

theorem State.Calm.cleanWindows (s : State) (m : MasterId) : s.Calm (s.cleanWindows m) where
  windows w := by simpa [State.window, State.cleanWindows] using WindowRecord.Follows.cleanedFor _ m
  time := by simp
  targets i := by simpa using TargetPort.SameTraffic.refl (s.target i)
  ports i := by simp; rfl

/-! ### Delivered commands -/

theorem State.Calm.finishCommand (s : State) (u : UnderWay) (r : Reply) : s.Calm (s.finishCommand u r) := .of_frame

theorem State.Moves.takeDelivered {c : Command} {effect : State → MasterId → Args → State × Reply}
    (h : ∀ m a, s.Moves (effect s m a).1) : s.Moves (s.takeDelivered c effect) := by
  unfold State.takeDelivered
  split
  · split
    · exact (h _ _).trans (State.Calm.finishCommand _ _ _).moves
    · exact .refl _
  · exact .refl _

theorem State.Moves.tableTaken {p : State × Reply} (h : s.Calm p.1) : s.Moves (tableTaken p).1 :=
  h.moves.trans (.redecideHeads _)

theorem argAccess_ceiling {n₁ n₂ n₃ n₄ n₅ : Nat} {p : LeasePolicy} {rs ws : MasterSet} {ct : Bool} {ceiling : Nat}
    (h : argAccess n₁ n₂ n₃ n₄ n₅ = some (p, rs, ws, ct, ceiling)) : ceiling ≤ Config.maxRenewals := by
  unfold argAccess at h
  split at h
  · split at h
    · next hc => cases h; exact hc
    · cases h
  · cases h

theorem State.Calm.defineWindowEffect (s : State) (m : MasterId) (a : Args) : s.Calm (defineWindowEffect s m a).1 := by
  unfold Machine.defineWindowEffect
  repeat' split
  all_goals try exact .refl s
  next hacc ht hs hg =>
    exact .setWindow (.define (by simpa using hs) (by simpa using hg) (by omega) (argAccess_ceiling hacc))

theorem State.Calm.setRouteEffect (s : State) (m : MasterId) (a : Args) : s.Calm (setRouteEffect s m a).1 := by
  unfold Machine.setRouteEffect
  repeat' split
  all_goals try exact .refl s
  next hs hg =>
    exact .setWindow (.settings (takesClaims_of (.inl (not_not.mp hs))) (takesClaims_of (.inl (not_not.mp hs)))
      ⟨rfl, rfl, rfl, rfl, rfl⟩ (.inr (by simpa using hg)) (.inl rfl) (.inl rfl))
  next hs hg =>
    exact .setWindow (.settings (takesClaims_of (.inl (not_not.mp hs))) (takesClaims_of (.inl (not_not.mp hs)))
      ⟨rfl, rfl, rfl, rfl, rfl⟩ (.inl rfl) (.inr (by simpa using hg)) (.inl rfl))

theorem State.Calm.setAccessEffect (s : State) (m : MasterId) (a : Args) : s.Calm (setAccessEffect s m a).1 := by
  unfold Machine.setAccessEffect
  repeat' split
  all_goals try exact .refl s
  next hacc hs _ =>
    exact .setWindow (.settings (takesClaims_of (.inl (not_not.mp hs))) (takesClaims_of (.inl (not_not.mp hs)))
      ⟨rfl, rfl, rfl, rfl, rfl⟩ (.inl rfl) (.inl rfl) (.inr (argAccess_ceiling hacc)))

theorem State.Calm.enableWindowEffect (s : State) (m : MasterId) (a : Args) : s.Calm (enableWindowEffect s m a).1 := by
  unfold Machine.enableWindowEffect
  repeat' split
  all_goals try exact .refl s
  next hs =>
    exact .setWindow (.settings (takesClaims_of (.inl (not_not.mp hs))) rfl ⟨rfl, rfl, rfl, rfl, rfl⟩ (.inl rfl) (.inl rfl)
      (.inl rfl))

theorem State.Calm.disableWindowEffect (s : State) (m : MasterId) (a : Args) : s.Calm (disableWindowEffect s m a).1 := by
  unfold Machine.disableWindowEffect
  repeat' split
  all_goals try exact .refl s
  next hs =>
    exact .setWindow (.settings (takesClaims_of (.inr (not_not.mp hs))) rfl ⟨rfl, rfl, rfl, rfl, rfl⟩ (.inl rfl) (.inl rfl)
      (.inl rfl))

/-- Everything a forced retirement does to leases, claims and notices leaves the traffic. -/
theorem forceOut_frame (s : State) (w : WindowId) (m : MasterId) :
    (s.forceOut w m).windows = s.windows ∧ (s.forceOut w m).time = s.time ∧ (s.forceOut w m).targets = s.targets ∧
    (s.forceOut w m).ports = s.ports ∧ (s.forceOut w m).engine = s.engine := by
  have keeps {γ : Type} (F : State → γ) (hp : ∀ (s : State) k b, F (s.post k b) = F s)
      (hl : ∀ (s : State) w l, F (s.setLease w l) = F s) (hc : ∀ (s : State) l, F (s.setClaims l) = F s) :
      F (s.forceOut w m) = F s := by
    unfold State.forceOut
    rw [foldl_keeps F _ (fun s c => hp s _ _), hc]
    split
    · rw [hp, hl]
    · rfl
  exact ⟨keeps (·.windows) (by simp) (by simp) (by simp), keeps (·.time) (by simp) (by simp) (by simp),
    keeps (·.targets) (by simp) (by simp) (by simp), keeps (·.ports) (by simp) (by simp) (by simp),
    keeps (·.engine) (by simp) (by simp) (by simp)⟩

theorem State.Calm.forceOut (s : State) (w : WindowId) (m : MasterId) : s.Calm (s.forceOut w m) := by
  obtain ⟨hw, ht, hg, hp, -⟩ := forceOut_frame s w m
  exact .of_frame hw ht hg hp

theorem State.Calm.leaveTable {w : WindowId} (m : MasterId) (hs : (s.window w).state.takesClaims = true) :
    s.Calm (s.leaveTable w m).1 := by
  unfold State.leaveTable
  split
  · next h => exact (State.Calm.setWindow (.freed h)).trans (.post _ m _)
  · next h => exact .setWindow (.retire m hs h)

theorem State.Calm.retireWindowEffect (s : State) (m : MasterId) (a : Args) : s.Calm (retireWindowEffect s m a).1 := by
  unfold Machine.retireWindowEffect
  repeat' split
  all_goals try exact .refl s
  · next w _ _ _ _ hs _ =>
    have hw : (s.forceOut w m).window w = s.window w := by simp [State.window, (forceOut_frame s w m).1]
    exact (State.Calm.forceOut s w m).trans (.leaveTable m (by simpa [hw] using hs))
  · next hs _ _ => exact .leaveTable m (by simpa using hs)

theorem State.Calm.setDefaultEffect (s : State) (m : MasterId) (a : Args) : s.Calm (setDefaultEffect s m a).1 := by
  unfold Machine.setDefaultEffect
  split <;> exact .of_frame rfl rfl rfl rfl

theorem State.Calm.queryWindowEffect (s : State) (m : MasterId) (a : Args) : s.Calm (queryWindowEffect s m a).1 := by
  unfold Machine.queryWindowEffect
  split <;> exact .refl s

theorem State.Calm.claimEffect (s : State) (m : MasterId) (a : Args) : s.Calm (claimEffect s m a).1 := by
  unfold Machine.claimEffect State.joinQueue
  repeat' split
  all_goals exact .of_frame rfl rfl rfl rfl

theorem State.Calm.renewEffect (s : State) (m : MasterId) (a : Args) : s.Calm (renewEffect s m a).1 := by
  unfold Machine.renewEffect
  repeat' split
  all_goals exact .of_frame rfl rfl rfl rfl

theorem State.Calm.releaseEffect (s : State) (m : MasterId) (a : Args) : s.Calm (releaseEffect s m a).1 := by
  unfold Machine.releaseEffect
  repeat' split
  · exact .refl s
  · exact .refl s
  · exact .of_frame (t := State.endLease _ _)

theorem State.Calm.withdrawEffect (s : State) (m : MasterId) (a : Args) : s.Calm (withdrawEffect s m a).1 := by
  unfold Machine.withdrawEffect
  repeat' split
  all_goals exact .of_frame rfl rfl rfl rfl

theorem State.Calm.revokeEffect (s : State) (m : MasterId) (a : Args) : s.Calm (revokeEffect s m a).1 := by
  unfold Machine.revokeEffect
  repeat' split
  · exact .refl s
  · exact .refl s
  · exact .of_frame (t := State.handOff _ _)

theorem State.Calm.setTickEffect (s : State) (m : MasterId) (a : Args) : s.Calm (setTickEffect s m a).1 := by
  unfold Machine.setTickEffect
  split
  · exact .refl s
  · refine .setTime fun _ => ⟨by simp; omega, by simp; omega, by simp; omega, ?_⟩
    simp only [TimeBase.period]
    exact Nat.mul_pos (by omega) (by positivity)

theorem State.Calm.setTargetEffect (s : State) (m : MasterId) (a : Args) : s.Calm (setTargetEffect s m a).1 := by
  unfold Machine.setTargetEffect
  repeat' split
  · exact .refl s
  · exact .refl s
  · exact .setTarget ⟨rfl, fun _ => rfl, rfl, rfl⟩

theorem State.Calm.queryTargetEffect (s : State) (m : MasterId) (a : Args) : s.Calm (queryTargetEffect s m a).1 := by
  unfold Machine.queryTargetEffect
  repeat' split
  · exact .refl s
  · exact .refl s
  · exact .setTarget ⟨rfl, fun _ => rfl, rfl, rfl⟩
  · exact .refl s

theorem State.Moves.fenceEffect (s : State) (m : MasterId) (a : Args) : s.Moves (fenceEffect s m a).1 := by
  unfold Machine.fenceEffect
  repeat' split
  · exact .refl s
  · exact .startFence s _ m
  · exact .startFence s _ m
  · exact .refl s
  · exact (State.Calm.joinRequesters s _ m).moves
  · exact .refl s

theorem State.Calm.unfenceEffect (s : State) (m : MasterId) (a : Args) : s.Calm (unfenceEffect s m a).1 := by
  unfold Machine.unfenceEffect
  repeat' split
  all_goals first
    | exact .refl s
    | exact .restore s _ _
    | exact (State.Calm.tellRequesters s _ _).trans (.restore _ _ _)

/-! ### Ports and the engine -/

theorem State.Moves.takeRequest {m : MasterId} (f : RequestFrame) (h : (s.port m).takesRequests = true) :
    s.Moves (s.takeRequest m f) := by
  unfold State.takeRequest
  split
  · exact (State.Calm.post s m _).moves
  · split
    · exact ((State.Calm.markTag s m f.tag).trans (.complete _ m _)).moves
    · refine (State.Calm.markTag s m f.tag).moves.trans (State.Move.enqueued f ?_).moves
      simpa [State.markTag, MasterPort.takesRequests] using h

theorem State.Moves.startCleanup (s : State) (m : MasterId) : s.Moves (s.startCleanup m) :=
  (State.Move.cleanupStarts s m).moves.trans (.redecideAfterFalls _ _)

theorem State.Moves.dropLink (s : State) (m : MasterId) : s.Moves ((s.lowerPort m).startCleanup m) :=
  (State.Move.linkDrops s m).moves.trans (.redecideAfterFalls _ _)

theorem mem_left_of_partDue {m : MasterId} {b : CleanupBlock} (h : s.partDue m b = true) : b ∈ (s.port m).cleanup.left := by
  unfold State.partDue at h
  cases hc : (s.port m).cleanup with
  | clear => simp [hc] at h
  | underWay left => simp_all [CleanupState.left]

/-- A part other than a target port's leaves the ports and the waiting sets. -/
theorem State.Moves.takePart {m : MasterId} {b : CleanupBlock} {part : State → State} (hc : s.Calm (part s))
    (hp : (part s).ports = s.ports) (hb : ∀ i, b ≠ .target i) : s.Moves (s.takePart m b part) := by
  unfold State.takePart
  split
  · next h =>
    have hm : b ∈ ((part s).port m).cleanup.left := by
      simpa [State.port, hp] using mem_left_of_partDue h
    exact hc.moves.trans (State.Move.partTaken hm fun i e => absurd e (hb i)).moves
  · exact .refl _

theorem State.Moves.takeTargetPart (s : State) (m : MasterId) (i : TargetId) :
    s.Moves (s.takePart m (.target i) fun s => s.cleanTarget m i) := by
  unfold State.takePart
  split
  · next h =>
    have hm := mem_left_of_partDue h
    refine (State.Move.targetCleaned hm).moves.trans (State.Move.partTaken (by simpa using hm) fun j e => ?_).moves
    cases e
    simp [State.cleanTarget]
  · exact .refl _

theorem State.Calm.takeSlot (s : State) (m : MasterId) : s.Calm (s.takeSlot m) := .of_frame

/-! ### Every step -/

/-- Every command is a sequence of moves. -/
theorem exec_moves {c : Instr} (h : exec c s = .next t) : s.Moves t := by
  have happens {effect : State → State} (he : s.Moves (effect s)) (h : happening s effect = .next t) : s.Moves t := by
    unfold happening at h
    cases h
    split
    · exact he
    · exact .refl s
  have onTable {k : Command} {effect : State → MasterId → Args → State × Reply}
      (he : ∀ m a, s.Calm (effect s m a).1)
      (h : happening s (fun s => s.takeDelivered k fun s m a => tableTaken (effect s m a)) = .next t) : s.Moves t :=
    happens (.takeDelivered fun m a => .tableTaken (he m a)) h
  unfold exec at h
  cases c with
  | deviceReset => cases h; exact (State.Move.reset s .asserted s.pending).moves
  | rstNRelease =>
    unfold execRstNRelease at h
    cases h
    split
    · have released : s.Calm { s with rstN := .released } := .of_frame rfl rfl rfl rfl
      have restarted : ({ s with rstN := .released } : State).Calm
          { s with rstN := .released, time := { s.time with prescale := 0 } } :=
        State.Calm.setTime (s := { s with rstN := .released }) fun h => TimeBase.ok.restarted h s.time.due
      exact (released.trans restarted).moves
    · exact .refl s
  | tick part => exact happens (.tickPart s part) h
  | expired w =>
    refine happens ?_ h
    split
    · exact (State.Calm.of_frame (t := s.countLease w)).moves
    · exact .refl s
  | handoff w => exact happens (State.Calm.of_frame (t := s.handOff w)).moves h
  | claimLapsed w m =>
    refine happens ?_ h
    split
    · exact (State.Calm.of_frame (t := s.countClaim w m)).moves
    · exact .refl s
  | timeout i x =>
    refine happens ?_ h
    split
    · exact .countAge s i x
    · exact .refl s
  | requestFrame m f =>
    refine happens ?_ h
    split
    · next ht => exact .takeRequest f ht
    · exact .refl s
  | portReset m =>
    refine happens ?_ h
    split
    · exact .startCleanup s m
    · exact .refl s
  | linkDrop m =>
    refine happens ?_ h
    split
    · exact .dropLink s m
    · next hl => exact (State.Move.lowered hl).moves
  | masterLinkTrains m => exact happens (State.Move.trained s m).moves h
  | cleanupEnginePart m =>
    refine happens ?_ h
    exact .takePart .of_frame (by simp) (by simp)
  | cleanupNoticePart m =>
    refine happens ?_ h
    exact .takePart .of_frame (by simp) (by simp)
  | cleanupLeasePart m =>
    refine happens ?_ h
    exact .takePart .of_frame (by simp) (by simp)
  | cleanupWindowPart m =>
    refine happens ?_ h
    exact .takePart (.cleanWindows s m) (by simp) (by simp)
  | cleanupTargetPart m i => exact happens (.takeTargetPart s m i) h
  | steeringDecision m => exact happens (.decideHead s m) h
  | eventPortRead m =>
    refine happens ?_ h
    split
    · exact .decideHead s m
    · exact .refl s
  | noticeMaskWrite m =>
    refine happens ?_ h
    split
    · exact .decideHead s m
    · exact .refl s
  | controlPageWrite m =>
    refine happens ?_ h
    split
    · exact .decideHead s m
    · exact .refl s
  | commandTake =>
    refine happens ?_ h
    split
    · next m _ => exact (State.Calm.takeSlot s m).moves
    · exact .refl s
  | defineWindow => exact onTable (.defineWindowEffect s) h
  | setRoute => exact onTable (.setRouteEffect s) h
  | setAccess => exact onTable (.setAccessEffect s) h
  | enableWindow => exact onTable (.enableWindowEffect s) h
  | disableWindow => exact onTable (.disableWindowEffect s) h
  | retireWindow => exact onTable (.retireWindowEffect s) h
  | windowRetired w =>
    refine happens (State.Calm.moves ?_) h
    unfold State.finishRetirement
    dsimp only
    split
    · next hf =>
      split
      · exact (State.Calm.setWindow (.freed hf.2)).trans (.post _ _ _)
      · exact .setWindow (.freed hf.2)
    · exact .refl s
  | setDefault => exact onTable (.setDefaultEffect s) h
  | queryWindow => exact onTable (.queryWindowEffect s) h
  | claim => exact happens (.takeDelivered fun m a => (State.Calm.claimEffect s m a).moves) h
  | renew => exact happens (.takeDelivered fun m a => (State.Calm.renewEffect s m a).moves) h
  | release => exact happens (.takeDelivered fun m a => (State.Calm.releaseEffect s m a).moves) h
  | withdraw => exact happens (.takeDelivered fun m a => (State.Calm.withdrawEffect s m a).moves) h
  | revoke => exact happens (.takeDelivered fun m a => (State.Calm.revokeEffect s m a).moves) h
  | setTick => exact happens (.takeDelivered fun m a => (State.Calm.setTickEffect s m a).moves) h
  | setTarget => exact happens (.takeDelivered fun m a => (State.Calm.setTargetEffect s m a).moves) h
  | queryTarget => exact happens (.takeDelivered fun m a => (State.Calm.queryTargetEffect s m a).moves) h
  | fenceTarget => exact happens (.takeDelivered fun m a => .fenceEffect s m a) h
  | unfenceTarget => exact happens (.takeDelivered fun m a => (State.Calm.unfenceEffect s m a).moves) h
  | fenceDone i => exact happens (State.Calm.finishDrain s i).moves h
  | xidGrant i => exact happens (State.Move.granted s i).moves h
  | mirrorXidGrant i => exact happens (State.Move.mirrorGranted s i).moves h
  | targetCompletion i f =>
    refine happens ?_ h
    split
    · exact .takeAnswer s i f
    · exact .refl s
  | targetLinkDown i =>
    refine happens ?_ h
    split
    · exact .linkDown s i
    · exact .refl s
  | targetLinkTrains i => exact happens (State.Calm.setLink s i .up).moves h

/-- Every step is a sequence of moves. -/
theorem step_moves (h : step s = .next t) : s.Moves t := by
  unfold step at h
  split at h
  · next c rest _ =>
    have hq : s.Calm { s with pending := rest } := .of_frame rfl rfl rfl rfl
    exact hq.moves.trans (exec_moves h)
  · unfold idle happening at h
    cases h
    split
    · dsimp only
      split
      · next part _ => exact .tickPart s part
      · exact (State.Calm.refclk s).moves
    · exact .refl s

/-- What every move keeps true, every step keeps true. -/
theorem step_keeps {P : State → Prop} (hm : ∀ s t : State, P s → s.Move t → P t) (hs : P s) (h : step s = .next t) : P t :=
  (step_moves h).keeps hm hs

end Sys2Proof.Machine
end

section
/-! Traffic: what the operations that a move is made of do to the tables they change: the window whose count
falls or rises, the head that leaves or is bound, the target port that gives or frees an xid, and the cases of each. -/

namespace Sys2Proof.Machine

-- One proof after the other, as in the tests: together they would take too many threads, and their stacks too much memory.
set_option Elab.async false

variable {s t u : State}

/-! ### Counts (R16, R19) -/

/-- The record after a fall of its count (R16, R19). -/
def WindowRecord.fallen (r : WindowRecord) : WindowRecord :=
  if r.state = .retiring ∧ r.inFlight - 1 = 0 then WindowRecord.freeRecord else { r with inFlight := r.inFlight - 1 }

theorem State.finishRetirement_window (s : State) (w w' : WindowId) :
    (s.finishRetirement w).window w' =
      if w = w' ∧ (s.window w).state = .retiring ∧ (s.window w).inFlight = 0 then WindowRecord.freeRecord
      else s.window w' := by
  unfold State.finishRetirement
  by_cases h : (s.window w).state = .retiring ∧ (s.window w).inFlight = 0
  · simp only [h, and_self, if_true, and_true]
    split <;> simp
  · simp [h]

theorem State.countFalls_window (s : State) (w w' : WindowId) :
    (s.countFalls w).window w' = if w = w' then (s.window w).fallen else s.window w' := by
  unfold State.countFalls WindowRecord.fallen
  rw [State.finishRetirement_window]
  by_cases h : w = w' <;> simp [h]

theorem WindowRecord.fallen_inFlight (r : WindowRecord) : r.fallen.inFlight = r.inFlight - 1 := by
  unfold WindowRecord.fallen
  split
  · next h => exact h.2.symm
  · rfl

theorem WindowRecord.fallen_legsDiffer {r : WindowRecord} (h : r.writeRoute.legsDiffer = true) :
    r.fallen.writeRoute.legsDiffer = true := by
  unfold WindowRecord.fallen
  split
  · rfl
  · exact h

theorem WindowRecord.ok.fallen {r : WindowRecord} (h : r.ok) : r.fallen.ok := by
  unfold WindowRecord.fallen
  split
  · decide
  · next hf =>
    obtain ⟨hfree, hgeo, hroutes, ht, hc, hl, hm, hr⟩ := h
    refine ⟨fun e => ?_, hgeo, hroutes, ht, hc, by dsimp only; omega, hm, fun e => ?_⟩
    · rw [hfree e]; rfl
    · exact Nat.pos_of_ne_zero fun h0 => hf ⟨e, h0⟩

/-- The record after a rise of its count (R16). -/
def WindowRecord.risen (r : WindowRecord) : WindowRecord := { r with inFlight := r.inFlight + 1 }

theorem State.bindingBegins_window (s : State) (w : Option WindowId) (w' : WindowId) :
    (s.bindingBegins w).window w' = if w = some w' then (s.window w').risen else s.window w' := by
  cases w with
  | none => simp [State.bindingBegins]
  | some w =>
    by_cases h : w = w'
    · subst h; simp [State.bindingBegins, State.countRises, WindowRecord.risen]
    · simp [State.bindingBegins, State.countRises, h]

/-! ### Heads -/

theorem State.inbound_of_head {m : MasterId} {r : Request} (h : s.head m = some r) :
    (s.port m).inbound = r :: (s.port m).inbound.tail := by
  unfold State.head at h
  cases hi : (s.port m).inbound with
  | nil => simp [hi] at h
  | cons a l => simp_all

theorem State.head_of_inbound {m : MasterId} {r : Request} {rest : List Request} (h : (s.port m).inbound = r :: rest) :
    s.head m = some r := by
  simp [State.head, h]

theorem State.rebindHead_of_head {m : MasterId} {r : Request} (h : s.head m = some r) (b : Binding) :
    s.rebindHead m b =
      s.setPort m { s.port m with inbound := { r with binding := .bound b } :: (s.port m).inbound.tail } := by
  unfold State.rebindHead
  rw [State.inbound_of_head h]
  rfl

theorem State.holdHead_of_head {m : MasterId} {r : Request} (h : s.head m = some r) :
    s.holdHead m =
      s.setPort m { s.port m with inbound := { r with binding := .unbound true } :: (s.port m).inbound.tail } := by
  unfold State.holdHead
  rw [State.inbound_of_head h]
  rfl

theorem State.leaveHead_port (s : State) (m k : MasterId) :
    (s.leaveHead m).port k = if m = k then { s.port m with inbound := (s.port m).inbound.tail } else s.port k := by
  simp [State.leaveHead]

/-- Joining waiting sets one after the other changes nothing else of the target ports. -/
theorem State.foldl_startWaiting_target (l : List TargetId) (s : State) (m : MasterId) (i : TargetId) :
    (l.foldl (fun s j => s.startWaiting m j) s).target i =
      if i ∈ l then { s.target i with waiting := (s.target i).waiting.insert m } else s.target i := by
  induction l generalizing s with
  | nil => simp
  | cons j l ih =>
    rw [List.foldl_cons, ih]
    by_cases h : j = i
    · subst h; by_cases hl : j ∈ l <;> simp [State.startWaiting, hl, MasterSet.insert]
    · simp [State.startWaiting, h, Ne.symm h]

theorem State.foldl_startWaiting_frame (l : List TargetId) (s : State) (m : MasterId) :
    (l.foldl (fun s j => s.startWaiting m j) s).windows = s.windows ∧
    (l.foldl (fun s j => s.startWaiting m j) s).ports = s.ports :=
  ⟨foldl_keeps (·.windows) _ (by simp) l s, foldl_keeps (·.ports) _ (by simp) l s⟩

theorem State.bindHead_window (s : State) (m : MasterId) (b : Binding) (w : WindowId) :
    (s.bindHead m b).window w = if b.window = some w then (s.window w).risen else s.window w := by
  unfold State.bindHead
  rw [show ∀ s' : State, (b.route.waitsAt.foldl (fun s j => s.startWaiting m j) s').window w = s'.window w from
    fun s' => by simp [State.window, State.foldl_startWaiting_frame], State.bindingBegins_window]
  simp

theorem State.bindHead_port {m : MasterId} {r : Request} (h : s.head m = some r) (b : Binding) (k : MasterId) :
    (s.bindHead m b).port k =
      if m = k then { s.port m with inbound := { r with binding := .bound b } :: (s.port m).inbound.tail } else s.port k := by
  unfold State.bindHead
  rw [show ∀ s' : State, (b.route.waitsAt.foldl (fun s j => s.startWaiting m j) s').port k = s'.port k from
    fun s' => by simp [State.port, State.foldl_startWaiting_frame]]
  simp [State.rebindHead_of_head h]

theorem State.bindHead_target (s : State) (m : MasterId) (b : Binding) (i : TargetId) :
    (s.bindHead m b).target i =
      if i ∈ b.route.waitsAt then { s.target i with waiting := (s.target i).waiting.insert m } else s.target i := by
  unfold State.bindHead
  rw [State.foldl_startWaiting_target]
  simp

/-! ### Steering decisions that bind -/

/-- Every window that the match passes over or keeps is a candidate. -/
theorem foldl_betterMatch {P : WindowId → Prop} (l : List WindowId) (best : Option WindowId) (hl : ∀ w ∈ l, P w)
    (hb : ∀ w ∈ best, P w) : ∀ w ∈ l.foldl s.betterMatch best, P w := by
  induction l generalizing best with
  | nil => exact hb
  | cons a l ih =>
    refine ih _ (fun w hw => hl w (by simp [hw])) fun w hw => ?_
    unfold State.betterMatch at hw
    have ha := hl a (by simp)
    split at hw
    · cases hw; exact ha
    · next b =>
      split at hw
      · cases hw; exact ha
      · cases hw; exact hb _ rfl

theorem matchWindow_active {address : Word} {w : WindowId} (h : s.matchWindow address = some w) :
    (s.window w).state = .active := by
  have hc := foldl_betterMatch (s := s) (P := fun w => (s.window w).candidate address = true)
    (allWindows.filter fun w => (s.window w).candidate address) none (fun w hw => (List.mem_filter.mp hw).2) (by simp) w h
  unfold WindowRecord.candidate at hc
  simp_all

theorem countLimited_bind {w : WindowId} {d : Decision} {b : Binding} (h : s.countLimited w d = .bind b) :
    d = .bind b ∧ (s.window w).inFlight < 64 := by
  cases d with
  | bind b' =>
    dsimp only [State.countLimited] at h
    split at h
    · next hc => exact ⟨h, hc⟩
    · cases h
  | _ => cases h

theorem oneTarget_bind {i : TargetId} {b b' : Binding} (h : s.oneTarget i b = .bind b') : b' = b := by
  unfold State.oneTarget at h
  split at h <;> cases h
  rfl

theorem twoTargets_bind {g : Nat} {w : WindowId} {t1 t2 : TargetId} {a1 a2 : Word} {b : Binding}
    (h : s.twoTargets g w t1 a1 t2 a2 = .bind b) : ∃ k, b = ⟨g, some w, .mirror t1 a1 t2 a2 k⟩ := by
  unfold State.twoTargets at h
  split at h <;> cases h <;> exact ⟨_, rfl⟩

/-- What a route's decision binds: to its window, which counts less than 64, and to two targets only as its write route names
them. -/
theorem routeDecision_bind {m : MasterId} {w : WindowId} {r : Request} {b : Binding} (h : s.routeDecision m w r = .bind b) :
    b.window = some w ∧ (s.window w).inFlight < 64 ∧
      ((s.window w).writeRoute.legsDiffer = true → b.route.legsDiffer = true) := by
  unfold State.routeDecision at h
  dsimp only at h
  split at h
  · split at h
    · cases h
    · cases h
    · obtain ⟨hb, hc⟩ := countLimited_bind h
      rw [oneTarget_bind hb]
      exact ⟨rfl, hc, fun _ => rfl⟩
  · split at h
    · cases h
    · cases h
    · obtain ⟨hb, hc⟩ := countLimited_bind h
      rw [oneTarget_bind hb]
      exact ⟨rfl, hc, fun _ => rfl⟩
    · next hr =>
      obtain ⟨hb, hc⟩ := countLimited_bind h
      obtain ⟨k, rfl⟩ := twoTargets_bind hb
      refine ⟨rfl, hc, fun hl => ?_⟩
      rw [hr] at hl
      exact hl

/-- What a steering decision binds: a request to an ACTIVE window that counts less than 64, or to none. -/
theorem steered_bind {m : MasterId} {r : Request} {b : Binding} (h : s.steered m r = .bind b) :
    (∀ w, b.window = some w → (s.window w).state = .active ∧ (s.window w).inFlight < 64) ∧
      ((∀ w, (s.window w).writeRoute.legsDiffer = true) → b.route.legsDiffer = true) := by
  unfold State.steered at h
  split at h
  · unfold State.defaultDecision at h
    split at h
    · cases h
    · rw [oneTarget_bind h]
      exact ⟨by simp, fun _ => rfl⟩
  · next w hw =>
    unfold State.windowDecision at h
    split at h
    · cases h
    · split at h
      · cases h
      · cases h
      · obtain ⟨hb, hc, hl⟩ := routeDecision_bind h
        refine ⟨fun w' e => ?_, fun hall => hl (hall w)⟩
        rw [hb] at e
        cases e
        exact ⟨matchWindow_active hw, hc⟩

/-! ### Waiting heads re-examined (R38, R102, R103) -/

/-- What the re-examination of a head can do: the master leaves the waiting set, and then a head that waits at this target alone
is refused, or a two-leg mirror write waits on at its other target, or a head that does not wait here stands. -/
theorem reexamineHead_cases (s : State) (i : TargetId) (m : MasterId) :
    (s.headWaitsAt m i = false ∧ s.reexamineHead i m = s.stopWaiting i m) ∨
    (∃ r b code, s.head m = some r ∧ r.binding = .bound b ∧ b.route.waitsAt = [i] ∧
      s.reexamineHead i m = ((s.stopWaiting i m).refuseHead m r.tag code).bindingEnds b.window) ∨
    (∃ r b t1 a1 t2 a2, s.head m = some r ∧ r.binding = .bound b ∧ b.route = .mirror t1 a1 t2 a2 none ∧ (t1 = i ∨ t2 = i) ∧
      s.reexamineHead i m =
        (s.stopWaiting i m).rebindHead m { b with route := .mirror t1 a1 t2 a2 (some (legAt t1 i)) }) := by
  unfold State.reexamineHead
  dsimp only
  split
  · next tag kind address length data b hr =>
    have hw : s.headWaitsAt m i = decide (i ∈ b.route.waitsAt) := by
      simp [State.headWaitsAt, State.headBinding, hr]
    split
    · next t' a he =>
      by_cases ht : t' = i
      · exact .inr (.inl ⟨_, b, _, hr, rfl, by simp [he, BoundRoute.waitsAt, ht], if_pos ht⟩)
      · exact .inl ⟨by simp [hw, he, BoundRoute.waitsAt, Ne.symm ht], by simp [ht]⟩
    · next t1 a1 t2 a2 he =>
      by_cases ht : t1 = i ∨ t2 = i
      · exact .inr (.inr ⟨_, b, t1, a1, t2, a2, hr, rfl, he, ht, by simp [ht]⟩)
      · refine .inl ⟨?_, by simp [ht]⟩
        push Not at ht
        simp [hw, he, BoundRoute.waitsAt, ht.1.symm, ht.2.symm]
    · next t1 a1 t2 a2 k he =>
      by_cases ht : sentTarget t1 t2 k = i
      · exact .inr (.inl ⟨_, b, _, hr, rfl, by simp [he, BoundRoute.waitsAt, ht], if_pos ht⟩)
      · exact .inl ⟨by simp [hw, he, BoundRoute.waitsAt, Ne.symm ht], by simp [ht]⟩
  · next hn =>
    refine .inl ⟨?_, rfl⟩
    unfold State.headWaitsAt State.headBinding
    cases hr : s.head m with
    | none => rfl
    | some r =>
      cases hb : r.binding with
      | unbound held => simp [hb]
      | bound b =>
        obtain ⟨tag, kind, address, length, data, binding⟩ := r
        subst hb
        exact absurd hr (hn _ _ _ _ _ _)

/-! ### The end of a transaction (R88, R93, R104) -/

/-- What the end of a leg can do: nothing, the record of its outcome, or the end of the write, with its completion and notice
before the fall. -/
theorem legEnds_cases (s : State) (ref : LegRef) (i : TargetId) (x : Xid) (o : EndOutcome) :
    s.legEnds ref i x o = s ∨
    (∃ ms, ms.map (·.window) = (s.target ref.holder).mirrors.map (·.window) ∧
      s.legEnds ref i x o = s.setTarget ref.holder { s.target ref.holder with mirrors := ms }) ∨
    (∃ r before after told, (s.target ref.holder).mirrors = before ++ r :: after ∧
      (s.setTarget ref.holder { s.target ref.holder with mirrors := before ++ after }).Calm told ∧
      s.legEnds ref i x o = told.countFalls r.window) := by
  unfold State.legEnds
  dsimp only
  split
  · exact .inl rfl
  · next r hr =>
    split
    · obtain ⟨hn, before, after, hm, hb⟩ := List.find?_eq_some_iff_append.mp hr
      have he : (s.target ref.holder).mirrors.eraseP (fun r => r.names ref.leg i x) = before ++ after := by
        rw [hm, List.eraseP_append_right _ (by simpa using hb), List.eraseP_cons, hn, cond_true]
      rw [he]
      have hw : (r.record ref.leg o).window = r.window := by
        unfold MirrorRecord.record; split <;> rfl
      refine .inr (.inr ⟨r, before, after, ?_⟩)
      unfold State.endMirror
      dsimp only
      rw [hw]
      split
      · exact ⟨_, hm, .refl _, rfl⟩
      · split
        · split
          · exact ⟨_, hm, (State.Calm.complete _ _ _).trans (.post _ _ _), rfl⟩
          · exact ⟨_, hm, .complete _ _ _, rfl⟩
        · exact ⟨_, hm, .refl _, rfl⟩
    · refine .inr (.inl ⟨_, ?_, rfl⟩)
      rw [List.map_map]
      refine List.map_congr_left fun q _ => ?_
      simp only [Function.comp]
      split
      · unfold MirrorRecord.record; split <;> rfl
      · rfl

/-- What the end of a transaction can do: nothing where the xid has no record; else its record is removed and its xid freed, and
then a leg's end goes to the mirror bookkeeping, and any other's has its completion before its window's count falls. -/
theorem endTransaction_cases (s : State) (i : TargetId) (x : Xid) (o : EndOutcome) (data : List Byte) :
    ((s.target i).record x = none ∧ s.endTransaction i x o data = s) ∨
    (∃ r told, (s.target i).record x = some r ∧ r.leg = none ∧ (s.setTarget i ((s.target i).freeXid x)).Calm told ∧
      s.endTransaction i x o data = told.bindingEnds r.window) ∨
    (∃ r ref, (s.target i).record x = some r ∧ r.leg = some ref ∧
      s.endTransaction i x o data = (s.setTarget i ((s.target i).freeXid x)).legEnds ref i x o) := by
  unfold State.endTransaction
  split
  · next hx => exact .inl ⟨hx, rfl⟩
  · next r hx =>
    dsimp only
    split
    · next ref hl => exact .inr (.inr ⟨r, ref, hx, hl, rfl⟩)
    · next hl =>
      refine .inr (.inl ?_)
      split
      · exact ⟨r, _, hx, hl, .complete _ _ _, rfl⟩
      · exact ⟨r, _, hx, hl, .refl _, rfl⟩

/-- The bookkeeping of legs and the ends of mirror writes change nothing of a target port but its mirror records. -/
theorem State.legEnds_target (s : State) (ref : LegRef) (i : TargetId) (x : Xid) (o : EndOutcome) (j : TargetId) :
    ∃ ms, (s.legEnds ref i x o).target j = { s.target j with mirrors := ms } := by
  have put (ms : List MirrorRecord) : ∃ ms', (s.setTarget ref.holder { s.target ref.holder with mirrors := ms }).target j =
      { s.target j with mirrors := ms' } := by
    rw [State.setTarget_target]
    split
    · next e => exact ⟨ms, by rw [e]⟩
    · exact ⟨_, rfl⟩
  unfold State.legEnds
  dsimp only
  split
  · exact ⟨_, rfl⟩
  · split
    · simpa only [State.endMirror_frame] using put _
    · exact put _

/-- The port of a master whose transaction ends changes in its tags at most. -/
theorem State.legEnds_port (s : State) (ref : LegRef) (i : TargetId) (x : Xid) (o : EndOutcome) (m : MasterId) :
    (s.port m).SameButTags ((s.legEnds ref i x o).port m) := by
  rcases legEnds_cases s ref i x o with he | ⟨ms, -, he⟩ | ⟨r, before, after, told, -, hc, he⟩
  · rw [he]; rfl
  · rw [he]; rfl
  · rw [he]; simpa using hc.ports m

/-- The end of a transaction frees its xid at its own port, and changes nothing else of a target port but mirror records. -/
theorem State.endTransaction_target (s : State) (i : TargetId) (x : Xid) (o : EndOutcome) (data : List Byte) (j : TargetId) :
    ∃ ms, (s.endTransaction i x o data).target j =
      { (if i = j ∧ (s.target i).record x ≠ none then (s.target i).freeXid x else s.target j) with mirrors := ms } := by
  unfold State.endTransaction
  split
  · next hx => exact ⟨(s.target j).mirrors, by simp [hx]⟩
  · next r hx =>
    dsimp only
    split
    · next ref _ =>
      obtain ⟨ms, h⟩ := State.legEnds_target (s.setTarget i ((s.target i).freeXid x)) ref i x o j
      exact ⟨ms, by rw [h]; simp [hx]⟩
    · refine ⟨(if i = j then (s.target i).freeXid x else s.target j).mirrors, ?_⟩
      split <;> simp [hx]

theorem State.endTransaction_port (s : State) (i : TargetId) (x : Xid) (o : EndOutcome) (data : List Byte) (m : MasterId) :
    (s.port m).SameButTags ((s.endTransaction i x o data).port m) := by
  rcases endTransaction_cases s i x o data with ⟨-, he⟩ | ⟨r, told, -, -, hc, he⟩ | ⟨r, ref, -, -, he⟩
  · rw [he]; rfl
  · rw [he]; simpa using hc.ports m
  · rw [he]; exact State.legEnds_port _ ref i x o m

/-! ### Grants (R85, R100, R101) -/

/-- A target port that has given its next xid to a transaction of master `m` and holds these mirror records more (R85, R101). -/
def TargetPort.granted (p : TargetPort) (x : Xid) (o : OutRecord) (m : MasterId) (held : List MirrorRecord) : TargetPort :=
  { p with
    freeList := p.freeList.tail
    records := p.records.put x (some o)
    waiting := p.waiting.erase m
    lastServed := m
    mirrors := p.mirrors ++ held }

theorem State.forward_target (s : State) (i : TargetId) (x : Xid) (m : MasterId) (r : Request) (o : OutRecord) (j : TargetId) :
    (s.forward i x m r o).target j = if i = j then (s.target i).granted x o m [] else s.target j := by
  simp [State.forward, TargetPort.granted]

/-- The mirror record of a grant is held at the port, if the binding names a window. -/
theorem State.holdMirror_target (s : State) (i : TargetId) (r : MirrorRecord) (j : TargetId) :
    (s.holdMirror i r).target j =
      if i = j then { s.target i with mirrors := (s.target i).mirrors ++ [r] } else s.target j := by
  simp [State.holdMirror]

/-- Two states with the same windows, target ports, master ports and time base. -/
theorem State.Calm.of_accessors (hw : t.windows = s.windows) (ht : t.time = s.time) (hg : ∀ i, t.target i = s.target i)
    (hp : ∀ m, t.port m = s.port m) : s.Calm t :=
  .of_frame hw ht (Table.ext_get hg) (Table.ext_get hp)

/-- The head that the arbiter grants next may be granted here. -/
theorem nextGrant_eligible {i : TargetId} {m : MasterId} (h : s.nextGrant i = some m) :
    ∃ r b, s.head m = some r ∧ r.binding = .bound b ∧ s.routeEligible i b.route = true := by
  unfold State.nextGrant at h
  split at h
  · have he := List.find?_some h
    unfold State.eligible State.headBinding at he
    cases hr : s.head m with
    | none => simp [hr] at he
    | some r =>
      cases hb : r.binding with
      | unbound held => simp [hr, hb] at he
      | bound b => exact ⟨r, b, rfl, hb, by simp_all⟩
  · cases h

theorem headBinding_of_head {m : MasterId} {r : Request} {b : Binding} (hr : s.head m = some r) (hb : r.binding = .bound b) :
    s.headBinding m = some b := by
  simp [State.headBinding, hr, hb]

/-- What a grant to one target does: the head that waits here alone leaves its queue for the record made here, and a skipped-leg
write has its mirror record held here. -/
theorem grantOne_cases {i : TargetId} {m : MasterId} {r : Request} {b : Binding} (x : Xid)
    (he : s.routeEligible i b.route = true) (h1 : b.route.twoLeg = false) :
    b.route.waitsAt = [i] ∧ ∃ o held,
      (o.leg = none ∧ o.window = b.window ∧ held = [] ∨ o.leg ≠ none ∧ held.map (·.window) = b.window.toList) ∧
      ((s.leaveHead m).setTarget i ((s.target i).granted x o m held)).Calm (s.grantOne i x m r b) := by
  unfold State.grantOne BoundRoute.waitsAt
  unfold State.routeEligible at he
  unfold BoundRoute.twoLeg at h1
  cases hroute : b.route with
  | single t' a =>
    rw [hroute] at he
    refine ⟨by simpa using he, newRecord m r b a none, [], .inl ⟨rfl, rfl, rfl⟩, ?_⟩
    exact .of_accessors (by simp) (by simp) (fun j => by simp [State.forward_target])
      (fun k => by simp [State.leaveHead_port])
  | mirror t1 a1 t2 a2 skipped =>
    rw [hroute] at he h1
    cases skipped with
    | none => simp at h1
    | some k =>
      refine ⟨by simpa using he, newRecord m r b (sentAddress a1 a2 k) (some ⟨i, otherLeg k⟩), ?_⟩
      dsimp only
      cases hb : b.window with
      | none =>
        exact ⟨[], .inr ⟨by simp [newRecord], by simp⟩, .of_accessors (by simp) (by simp)
          (fun j => by simp [State.forward_target]) (fun k => by simp [State.leaveHead_port])⟩
      | some w =>
        have hw : (skippedRecord m r.tag b w t1 t2 k x).window = w := by
          unfold skippedRecord; split <;> rfl
        refine ⟨[skippedRecord m r.tag b w t1 t2 k x], .inr ⟨by simp [newRecord], by simp [hw]⟩,
          .of_accessors (by simp) (by simp) (fun j => ?_) (fun k => by simp [State.leaveHead_port])⟩
        by_cases h : i = j <;> simp [State.holdMirror_target, State.forward_target, TargetPort.granted, h]

/-- What an arbiter's grant does, if it does anything. -/
theorem xidGrant_cases (s : State) (i : TargetId) :
    s.xidGrant i = s ∨
    ∃ m r b x xs o held, s.head m = some r ∧ r.binding = .bound b ∧ b.route.waitsAt = [i] ∧
      (s.target i).freeList = x :: xs ∧
      (o.leg = none ∧ o.window = b.window ∧ held = [] ∨ o.leg ≠ none ∧ held.map (·.window) = b.window.toList) ∧
      ((s.leaveHead m).setTarget i ((s.target i).granted x o m held)).Calm (s.xidGrant i) := by
  unfold State.xidGrant
  split
  · exact .inl rfl
  · next m hn =>
    obtain ⟨r, b, hr, hb, he⟩ := nextGrant_eligible hn
    rw [hr, headBinding_of_head hr hb]
    cases hf : (s.target i).freeList with
    | nil => exact .inl rfl
    | cons x xs =>
      dsimp only
      split
      · exact .inl rfl
      · next h2 =>
        obtain ⟨hw, o, held, ho, hc⟩ := grantOne_cases (m := m) (r := r) x he (by simpa using h2)
        exact .inr ⟨m, r, b, x, xs, o, held, hr, hb, hw, rfl, ho, hc⟩

/-- What the grant of a two-leg mirror write does, where its targets differ: the head leaves its queue for a leg's record at each
target, and its mirror record is held at the first. -/
theorem grantBoth_cases {m : MasterId} {b : Binding} (r : Request) (hl : b.route.legsDiffer = true) :
    s.grantBoth m r b = s ∨
    ∃ t1 t2 x1 xs1 x2 xs2 o1 o2 held, b.route.waitsAt = [t1, t2] ∧ t1 ≠ t2 ∧ (s.target t1).freeList = x1 :: xs1 ∧
      (s.target t2).freeList = x2 :: xs2 ∧ o1.leg ≠ none ∧ o2.leg ≠ none ∧ held.map (·.window) = b.window.toList ∧
      (((s.leaveHead m).setTarget t1 ((s.target t1).granted x1 o1 m held)).setTarget t2
        ((s.target t2).granted x2 o2 m [])).Calm (s.grantBoth m r b) := by
  unfold State.grantBoth BoundRoute.waitsAt
  split
  · next t1 a1 t2 a2 hroute =>
    have hd : t1 ≠ t2 := by simpa [hroute, BoundRoute.legsDiffer] using hl
    rw [hroute]
    split
    · next x1 xs1 x2 xs2 hf1 hf2 =>
      refine .inr ⟨t1, t2, x1, xs1, x2, xs2, newRecord m r b a1 (some ⟨t1, .one⟩), newRecord m r b a2 (some ⟨t1, .two⟩), ?_⟩
      dsimp only
      have targets (j : TargetId) : ((s.forward t1 x1 m r (newRecord m r b a1 (some ⟨t1, .one⟩))).forward t2 x2 m r
            (newRecord m r b a2 (some ⟨t1, .two⟩))).target j =
          if t2 = j then (s.target t2).granted x2 (newRecord m r b a2 (some ⟨t1, .two⟩)) m []
          else if t1 = j then (s.target t1).granted x1 (newRecord m r b a1 (some ⟨t1, .one⟩)) m [] else s.target j := by
        simp only [State.forward_target, if_neg hd]
      cases hb : b.window with
      | none =>
        exact ⟨[], rfl, hd, hf1, hf2, by simp [newRecord], by simp [newRecord], rfl, .of_accessors (by simp) (by simp)
          (fun j => by simp [targets]) (fun k => by simp [State.leaveHead_port])⟩
      | some w =>
        refine ⟨[⟨m, r.tag, b.generation, w, none, ⟨t1, some x1, .pending⟩, ⟨t2, some x2, .pending⟩⟩], rfl, hd, hf1, hf2,
          by simp [newRecord], by simp [newRecord], rfl, .of_accessors (by simp) (by simp) (fun j => ?_)
          (fun k => by simp [State.leaveHead_port])⟩
        by_cases e : t1 = j
        · subst e; simp [State.holdMirror_target, targets, hd.symm, TargetPort.granted]
        · simp [State.holdMirror_target, targets, e]
    · exact .inl rfl
  · exact .inl rfl

/-- What an arbiter's grant of a two-leg mirror write does, if it does anything. -/
theorem mirrorXidGrant_cases (s : State) (i : TargetId) (hl : ∀ m, ∀ r ∈ (s.port m).inbound, r.legsDiffer = true) :
    s.mirrorXidGrant i = s ∨
    ∃ m r b t1 t2 x1 xs1 x2 xs2 o1 o2 held, s.head m = some r ∧ r.binding = .bound b ∧ b.route.waitsAt = [t1, t2] ∧ t1 ≠ t2 ∧
      (s.target t1).freeList = x1 :: xs1 ∧ (s.target t2).freeList = x2 :: xs2 ∧ o1.leg ≠ none ∧ o2.leg ≠ none ∧
      held.map (·.window) = b.window.toList ∧
      (((s.leaveHead m).setTarget t1 ((s.target t1).granted x1 o1 m held)).setTarget t2
        ((s.target t2).granted x2 o2 m [])).Calm (s.mirrorXidGrant i) := by
  unfold State.mirrorXidGrant
  split
  · exact .inl rfl
  · next m hn =>
    obtain ⟨r, b, hr, hb, he⟩ := nextGrant_eligible hn
    rw [hr, headBinding_of_head hr hb]
    dsimp only
    split
    · have hd : b.route.legsDiffer = true := by
        have := hl m r (by rw [State.inbound_of_head hr]; simp)
        simpa [Request.legsDiffer, hb] using this
      rcases grantBoth_cases (s := s) (m := m) r hd with h | ⟨t1, t2, x1, xs1, x2, xs2, o1, o2, held, h⟩
      · exact .inl h
      · exact .inr ⟨m, r, b, t1, t2, x1, xs1, x2, xs2, o1, o2, held, hr, hb, h⟩
    · exact .inl rfl

/-! ### A port empties its queue (R157) -/

theorem State.foldl_countFalls_frame (l : List WindowId) (s : State) :
    (l.foldl State.countFalls s).ports = s.ports ∧ (l.foldl State.countFalls s).targets = s.targets ∧
    (l.foldl State.countFalls s).time = s.time :=
  ⟨foldl_keeps (·.ports) _ (by simp) l s, foldl_keeps (·.targets) _ (by simp) l s, foldl_keeps (·.time) _ (by simp) l s⟩

theorem State.takeOwnPart_port (s : State) (m k : MasterId) :
    (s.takeOwnPart m).port k = if m = k then (s.port m).emptied.handedOver else s.port k := by
  unfold State.takeOwnPart
  simp [State.port, State.foldl_countFalls_frame, State.setPort]

end Sys2Proof.Machine
end

section
/-! Windows: every move keeps the windows' records and the time base legal (O51). -/

namespace Sys2Proof.Machine

-- One proof after the other, as in the tests: together they would take too many threads, and their stacks too much memory.
set_option Elab.async false

variable {s t u : State}

theorem State.windowsOk_of_frame (hw : t.windows = s.windows) (ht : t.time = s.time) (h : s.windowsOk) : t.windowsOk :=
  ⟨fun w => by simpa [State.window, hw] using h.1 w, by simpa [ht] using h.2⟩

theorem State.windowsOk.calm (h : s.windowsOk) (hc : s.Calm t) : t.windowsOk :=
  ⟨fun w => (hc.windows w).ok (h.1 w), hc.time h.2⟩

theorem State.windowsOk.setTarget (h : s.windowsOk) (i : TargetId) (p : TargetPort) : (s.setTarget i p).windowsOk :=
  State.windowsOk_of_frame rfl rfl h

theorem State.windowsOk.countFalls (h : s.windowsOk) (w : WindowId) : (s.countFalls w).windowsOk := by
  refine ⟨fun w' => ?_, by simpa using h.2⟩
  rw [State.countFalls_window]
  split
  · exact (h.1 w).fallen
  · exact h.1 w'

theorem State.windowsOk.bindingEnds (h : s.windowsOk) (w : Option WindowId) : (s.bindingEnds w).windowsOk := by
  cases w with
  | none => exact h
  | some w => exact h.countFalls w

theorem State.windowsOk.takeOwnPart (h : s.windowsOk) (m : MasterId) : (s.takeOwnPart m).windowsOk := by
  unfold State.takeOwnPart
  exact State.windowsOk_of_frame rfl rfl
    (foldl_invariant State.windowsOk _ (fun s w hs => hs.countFalls w) _ _ (State.windowsOk_of_frame rfl rfl h))

theorem State.windowsOk.reexamineHead (h : s.windowsOk) (i : TargetId) (m : MasterId) : (s.reexamineHead i m).windowsOk := by
  rcases reexamineHead_cases s i m with ⟨-, he⟩ | ⟨r, b, code, -, -, -, he⟩ | ⟨r, b, t1, a1, t2, a2, -, -, -, -, he⟩
  · rw [he]; exact State.windowsOk_of_frame (by simp) (by simp) h
  · rw [he]; exact .bindingEnds (State.windowsOk_of_frame (by simp) (by simp) h) _
  · rw [he]; exact State.windowsOk_of_frame (by simp) (by simp) h

theorem State.windowsOk.legEnds (h : s.windowsOk) (ref : LegRef) (i : TargetId) (x : Xid) (o : EndOutcome) :
    (s.legEnds ref i x o).windowsOk := by
  rcases legEnds_cases s ref i x o with he | ⟨ms, -, he⟩ | ⟨r, before, after, told, -, hc, he⟩
  · rw [he]; exact h
  · rw [he]; exact h.setTarget _ _
  · rw [he]; exact ((h.setTarget _ _).calm hc).countFalls _

theorem State.windowsOk.endTransaction (h : s.windowsOk) (i : TargetId) (x : Xid) (o : EndOutcome) (data : List Byte) :
    (s.endTransaction i x o data).windowsOk := by
  have freed := h.setTarget i ((s.target i).freeXid x)
  rcases endTransaction_cases s i x o data with ⟨-, he⟩ | ⟨r, told, -, -, hc, he⟩ | ⟨r, ref, -, -, he⟩
  · rw [he]; exact h
  · rw [he]; exact (freed.calm hc).bindingEnds _
  · rw [he]; exact freed.legEnds ref i x o

/-- The record of a window that a steering decision binds to, its count risen. -/
theorem WindowRecord.ok.risen {r : WindowRecord} (h : r.ok) (ha : r.state = .active) (hl : r.inFlight < 64) : r.risen.ok := by
  obtain ⟨-, hgeo, hroutes, ht, hc, -, hm, -⟩ := h
  exact ⟨fun e => by simp [WindowRecord.risen, ha] at e, hgeo, hroutes, ht, hc, hl, hm,
    fun e => by simp [WindowRecord.risen, ha] at e⟩

theorem State.windowsOk.bindHead (h : s.windowsOk) {m : MasterId} {r : Request} {b : Binding}
    (hd : s.steered m r = .bind b) : (s.bindHead m b).windowsOk := by
  refine ⟨fun w => ?_, by simpa using h.2⟩
  rw [State.bindHead_window]
  split
  · next hw =>
    obtain ⟨ha, hl⟩ := (steered_bind hd).1 w hw
    exact (h.1 w).risen ha hl
  · exact h.1 w

theorem reset_windowsOk (pin : ResetPin) (queue : List Instr) :
    State.windowsOk { State.reset with rstN := pin, pending := queue } :=
  ⟨fun w => by
    rw [show State.window { State.reset with rstN := pin, pending := queue } w = WindowRecord.freeRecord from
      Table.get_fill _ _]
    decide, by show TimeBase.ok State.reset.time; decide⟩

theorem State.windowsOk.move (h : s.windowsOk) (hm : s.Move t) : t.windowsOk := by
  cases hm with
  | calm hc => exact h.calm hc
  | reset pin queue => exact reset_windowsOk pin queue
  | headLeaves hr hu => exact State.windowsOk_of_frame (by simp) (by simp) h
  | headBound hr hu hd => exact h.bindHead hd
  | headHeld hr hu => exact State.windowsOk_of_frame (by simp) (by simp) h
  | reexamined i m => exact h.reexamineHead i m
  | ended i x o data => exact h.endTransaction i x o data
  | granted i => exact State.windowsOk_of_frame (by simp) (by simp) h
  | mirrorGranted i => exact State.windowsOk_of_frame (by simp) (by simp) h
  | enqueued f ht => exact State.windowsOk_of_frame (by simp) (by simp) h
  | cleanupStarts m => exact h.takeOwnPart m
  | linkDrops m => exact .takeOwnPart (State.windowsOk_of_frame (by simp) (by simp) h) m
  | lowered hl => exact State.windowsOk_of_frame (by simp) (by simp) h
  | trained m => exact State.windowsOk_of_frame (by simp) (by simp) h
  | targetCleaned hl => exact State.windowsOk_of_frame (by simp) (by simp) h
  | partTaken hl hw => exact State.windowsOk_of_frame (by simp) (by simp) h

/-- Settles O51: every move keeps the records and the time base legal, and a step is a sequence of moves. -/
theorem everyStepKeepsTheWindowsLegal : Obligations.EveryStepKeepsTheWindowsLegal := by
  unfold Obligations.EveryStepKeepsTheWindowsLegal
  exact fun _ _ hs h => step_keeps (fun _ _ => State.windowsOk.move) hs h

end Sys2Proof.Machine
end

section
/-! Xids: every move keeps every xid free once or in use once, and the legs of a mirror apart (O53). -/

namespace Sys2Proof.Machine

-- One proof after the other, as in the tests: together they would take too many threads, and their stacks too much memory.
set_option Elab.async false

variable {s t u : State}

/-! ### One target port -/

/-- Two records that differ by a tick at most are both there or both absent. -/
theorem eq_none_iff_of_steady {a b : Option OutRecord} (h : a.map OutRecord.steady = b.map OutRecord.steady) :
    a = none ↔ b = none := by
  cases a <;> cases b <;> simp_all

theorem TargetPort.xidsOk_of_frame {p q : TargetPort} (hf : q.freeList = p.freeList)
    (hr : ∀ x, q.record x = none ↔ p.record x = none) (h : p.xidsOk) : q.xidsOk :=
  ⟨hf ▸ h.1, fun x => by rw [hf, hr]; exact h.2 x⟩

/-- An xid in use is freed: it joins the tail of the free list (R81). -/
theorem TargetPort.xidsOk.freeXid {p : TargetPort} (h : p.xidsOk) {x : Xid} (hx : p.record x ≠ none) :
    (p.freeXid x).xidsOk := by
  obtain ⟨hn, hm⟩ := h
  have hxf : x ∉ p.freeList := fun e => hx ((hm x).mp e)
  refine ⟨?_, fun y => ?_⟩
  · exact List.nodup_append.mpr ⟨hn, by simp, fun a ha b hb e => hxf (by simp_all)⟩
  · have hy := hm y
    simp only [TargetPort.record] at hy ⊢
    simp only [TargetPort.freeXid, List.mem_append, List.mem_singleton, Table.get_put]
    by_cases e : x = y
    · simp [e]
    · simp [e, Ne.symm e, hy]

/-- The next xid of the free list is given to a record (R85). -/
theorem TargetPort.xidsOk.granted {p : TargetPort} {x : Xid} {xs : List Xid} (h : p.xidsOk) (hf : p.freeList = x :: xs)
    (o : OutRecord) (m : MasterId) (held : List MirrorRecord) : (p.granted x o m held).xidsOk := by
  obtain ⟨hn, hm⟩ := h
  rw [hf] at hn
  refine ⟨by simpa [TargetPort.granted, hf] using hn.of_cons, fun y => ?_⟩
  have hy := hm y
  rw [hf] at hy
  simp only [TargetPort.record, TargetPort.granted, hf, List.tail_cons, Table.get_put] at hy ⊢
  by_cases e : x = y
  · subst e; simpa using (List.nodup_cons.mp hn).1
  · simpa [e, Ne.symm e] using hy

/-! ### The part -/

theorem State.xidsOk_of_frame (hg : ∀ i, (s.target i).xidsOk → (t.target i).xidsOk)
    (hw : ∀ w, (s.window w).writeRoute.legsDiffer = true → (t.window w).writeRoute.legsDiffer = true)
    (hp : ∀ m, (∀ r ∈ (s.port m).inbound, r.legsDiffer = true) → ∀ r ∈ (t.port m).inbound, r.legsDiffer = true)
    (h : s.xidsOk) : t.xidsOk :=
  ⟨fun i => hg i (h.1 i), fun w => hw w (h.2.1 w), fun m => hp m (h.2.2 m)⟩

theorem MasterPort.SameButTags.inbound {p q : MasterPort} (h : p.SameButTags q) : q.inbound = p.inbound := by
  rw [show q = _ from h]

theorem State.xidsOk.calm (h : s.xidsOk) (hc : s.Calm t) : t.xidsOk :=
  State.xidsOk_of_frame
    (fun i => TargetPort.xidsOk_of_frame (hc.targets i).freeList fun x => eq_none_iff_of_steady ((hc.targets i).records x))
    (fun w => (hc.windows w).legs) (fun m => by rw [(hc.ports m).inbound]; exact id) h

theorem State.xidsOk.setTarget (h : s.xidsOk) {i : TargetId} {p : TargetPort} (hp : p.xidsOk) : (s.setTarget i p).xidsOk :=
  State.xidsOk_of_frame (s := s) (fun j hj => by rw [State.setTarget_target]; split <;> assumption) (fun _ => id)
    (fun _ => id) h

theorem State.xidsOk.countFalls (h : s.xidsOk) (w : WindowId) : (s.countFalls w).xidsOk :=
  State.xidsOk_of_frame (fun i => by simp)
    (fun w' hw => by rw [State.countFalls_window]; split <;> [exact WindowRecord.fallen_legsDiffer (h.2.1 w); exact hw])
    (fun m => by simp) h

theorem State.xidsOk.bindingEnds (h : s.xidsOk) (w : Option WindowId) : (s.bindingEnds w).xidsOk := by
  cases w with
  | none => exact h
  | some w => exact h.countFalls w

/-- A change of the queues that takes requests out, or binds them to a route whose legs differ. -/
theorem State.xidsOk.setPort (h : s.xidsOk) {m : MasterId} {p : MasterPort}
    (hp : ∀ r ∈ p.inbound, r ∈ (s.port m).inbound ∨ r.legsDiffer = true) : (s.setPort m p).xidsOk := by
  refine State.xidsOk_of_frame (s := s) (fun _ => id) (fun _ => id) (fun k hk => ?_) h
  rw [State.setPort_port]
  split
  · next e => exact fun r hr => (hp r hr).elim (fun hm => hk r (e ▸ hm)) id
  · exact hk

theorem State.xidsOk.leaveHead (h : s.xidsOk) (m : MasterId) : (s.leaveHead m).xidsOk :=
  h.setPort fun _ hr => .inl (List.mem_of_mem_tail hr)

/-- A change of a port that leaves its queue. -/
theorem State.xidsOk.setPort_same (h : s.xidsOk) {m : MasterId} {p : MasterPort} (hp : p.inbound = (s.port m).inbound) :
    (s.setPort m p).xidsOk := h.setPort fun _ hr => .inl (hp ▸ hr)

theorem State.xidsOk.lowerPort (h : s.xidsOk) (m : MasterId) : (s.lowerPort m).xidsOk := by
  unfold State.lowerPort
  exact h.setPort_same rfl

theorem MasterPort.comeUp_inbound (p : MasterPort) : p.comeUp.inbound = p.inbound := by
  unfold MasterPort.comeUp
  split <;> rfl

theorem State.xidsOk.takeOwnPart (h : s.xidsOk) (m : MasterId) : (s.takeOwnPart m).xidsOk := by
  unfold State.takeOwnPart
  have emptied : (s.setPort m (s.port m).emptied).xidsOk := h.setPort (by simp [MasterPort.emptied])
  exact State.xidsOk.setPort (foldl_invariant State.xidsOk _ (fun s w hs => hs.countFalls w) _ _ emptied)
    fun _ hr => .inl hr

theorem State.xidsOk.stopWaiting (h : s.xidsOk) (i : TargetId) (m : MasterId) : (s.stopWaiting i m).xidsOk :=
  h.setTarget (TargetPort.xidsOk_of_frame rfl (fun _ => .rfl) (h.1 i))

theorem State.xidsOk.reexamineHead (h : s.xidsOk) (i : TargetId) (m : MasterId) : (s.reexamineHead i m).xidsOk := by
  have out := h.stopWaiting i m
  rcases reexamineHead_cases s i m with ⟨-, he⟩ | ⟨r, b, code, -, -, -, he⟩ | ⟨r, b, t1, a1, t2, a2, hr, hb, hroute, -, he⟩
  · rw [he]; exact out
  · rw [he]; exact ((out.leaveHead m).calm (.complete _ m _)).bindingEnds _
  · rw [he, State.rebindHead_of_head (by simpa using hr)]
    have hl := h.2.2 m r (by rw [State.inbound_of_head hr]; simp)
    refine out.setPort fun q hq => ?_
    rcases List.mem_cons.mp hq with rfl | hq
    · right
      simpa [Request.legsDiffer, hb, hroute, BoundRoute.legsDiffer] using hl
    · exact .inl (List.mem_of_mem_tail hq)

theorem State.xidsOk.legEnds (h : s.xidsOk) (ref : LegRef) (i : TargetId) (x : Xid) (o : EndOutcome) :
    (s.legEnds ref i x o).xidsOk := by
  have mirrors (ms : List MirrorRecord) : (s.setTarget ref.holder { s.target ref.holder with mirrors := ms }).xidsOk :=
    h.setTarget (TargetPort.xidsOk_of_frame rfl (fun _ => .rfl) (h.1 _))
  rcases legEnds_cases s ref i x o with he | ⟨ms, -, he⟩ | ⟨r, before, after, told, -, hc, he⟩
  · rw [he]; exact h
  · rw [he]; exact mirrors ms
  · rw [he]; exact ((mirrors _).calm hc).countFalls _

theorem State.xidsOk.endTransaction (h : s.xidsOk) (i : TargetId) (x : Xid) (o : EndOutcome) (data : List Byte) :
    (s.endTransaction i x o data).xidsOk := by
  rcases endTransaction_cases s i x o data with ⟨-, he⟩ | ⟨r, told, hx, -, hc, he⟩ | ⟨r, ref, hx, -, he⟩
  · rw [he]; exact h
  · rw [he]; exact ((h.setTarget ((h.1 i).freeXid (by simp [hx]))).calm hc).bindingEnds _
  · rw [he]; exact (h.setTarget ((h.1 i).freeXid (by simp [hx]))).legEnds ref i x o

theorem State.xidsOk.bindHead (h : s.xidsOk) {m : MasterId} {r : Request} {b : Binding} (hr : s.head m = some r)
    (hd : s.steered m r = .bind b) : (s.bindHead m b).xidsOk := by
  refine State.xidsOk_of_frame (fun i hi => ?_) (fun w hw => ?_) (fun k hk => ?_) h
  · rw [State.bindHead_target]
    split
    · exact TargetPort.xidsOk_of_frame rfl (fun _ => .rfl) hi
    · exact hi
  · rw [State.bindHead_window]
    split <;> exact hw
  · rw [State.bindHead_port hr]
    split
    · next e =>
      intro q hq
      rcases List.mem_cons.mp hq with rfl | hq
      · exact (steered_bind hd).2 h.2.1
      · exact h.2.2 m q (List.mem_of_mem_tail hq)
    · exact hk

theorem State.xidsOk.holdHead (h : s.xidsOk) {m : MasterId} {r : Request} (hr : s.head m = some r) : (s.holdHead m).xidsOk := by
  rw [State.holdHead_of_head hr]
  refine h.setPort fun q hq => ?_
  rcases List.mem_cons.mp hq with rfl | hq
  · exact .inr rfl
  · exact .inl (List.mem_of_mem_tail hq)

theorem State.xidsOk.xidGrant (h : s.xidsOk) (i : TargetId) : (s.xidGrant i).xidsOk := by
  rcases xidGrant_cases s i with he | ⟨m, r, b, x, xs, o, held, -, -, -, hf, -, hc⟩
  · rw [he]; exact h
  · exact ((h.leaveHead m).setTarget ((h.1 i).granted hf o m held)).calm hc

theorem State.xidsOk.mirrorXidGrant (h : s.xidsOk) (i : TargetId) : (s.mirrorXidGrant i).xidsOk := by
  rcases mirrorXidGrant_cases s i h.2.2 with he |
    ⟨m, r, b, t1, t2, x1, xs1, x2, xs2, o1, o2, held, -, -, -, -, hf1, hf2, -, -, -, hc⟩
  · rw [he]; exact h
  · exact (((h.leaveHead m).setTarget ((h.1 t1).granted hf1 o1 m held)).setTarget ((h.1 t2).granted hf2 o2 m [])).calm hc

theorem resetPort_xidsOk : TargetPort.resetPort.xidsOk := by
  refine ⟨List.nodup_finRange 16, fun x => ?_⟩
  simp [TargetPort.resetPort, TargetPort.record, mem_allXids]

theorem reset_xidsOk (pin : ResetPin) (queue : List Instr) :
    State.xidsOk { State.reset with rstN := pin, pending := queue } := by
  refine ⟨fun i => ?_, fun w => ?_, fun m r hr => ?_⟩
  · simpa [State.target, State.reset] using resetPort_xidsOk
  · simp [State.window, State.reset, WindowRecord.freeRecord, WriteRoute.legsDiffer]
  · simp [State.port, State.reset, MasterPort.resetPort] at hr

theorem State.xidsOk.move (h : s.xidsOk) (hm : s.Move t) : t.xidsOk := by
  cases hm with
  | calm hc => exact h.calm hc
  | reset pin queue => exact reset_xidsOk pin queue
  | headLeaves hr hu => exact h.leaveHead _
  | headBound hr hu hd => exact h.bindHead hr hd
  | headHeld hr hu => exact h.holdHead hr
  | reexamined i m => exact h.reexamineHead i m
  | ended i x o data => exact h.endTransaction i x o data
  | granted i => exact h.xidGrant i
  | mirrorGranted i => exact h.mirrorXidGrant i
  | enqueued f ht =>
    unfold State.enqueue
    refine h.setPort fun q hq => ?_
    rcases List.mem_append.mp hq with hq | hq
    · exact .inl hq
    · right; simp_all [requestOf, Request.legsDiffer]
  | cleanupStarts m => exact h.takeOwnPart m
  | linkDrops m => exact (h.lowerPort m).takeOwnPart m
  | lowered hl => exact h.lowerPort _
  | trained m => exact h.setPort_same (MasterPort.comeUp_inbound _)
  | targetCleaned hl => exact h.setTarget (TargetPort.xidsOk_of_frame rfl (fun _ => .rfl) (h.1 _))
  | partTaken hl hw => exact h.setPort_same (MasterPort.comeUp_inbound _)

/-- Settles O53: every move keeps the xids, and a step is a sequence of moves. -/
theorem everyStepKeepsTheXids : Obligations.EveryStepKeepsTheXids := by
  unfold Obligations.EveryStepKeepsTheXids
  exact fun _ _ hs h => step_keeps (fun _ _ => State.xidsOk.move) hs h

end Sys2Proof.Machine
end

section
/-! Counts: every move keeps every in-flight count equal to the number of transactions bound to its window
that have not ended (O55). Between the end of a transaction and the fall of its window's count the two differ by one: `CountsBut`
names the windows whose falls are still to come. -/

namespace Sys2Proof.Machine

-- One proof after the other, as in the tests: together they would take too many threads, and their stacks too much memory.
set_option Elab.async false

variable {s t u : State}

/-! ### Sums and counts -/

/-- Two sums over a list that differ at one place. -/
theorem sum_map_change {α : Type} {f g : α → Nat} {l : List α} {a : α} (hn : l.Nodup) (ha : a ∈ l)
    (h : ∀ b, b ≠ a → f b = g b) : (l.map f).sum + g a = (l.map g).sum + f a := by
  induction l with
  | nil => simp at ha
  | cons b l ih =>
    obtain ⟨hb, hn⟩ := List.nodup_cons.mp hn
    simp only [List.map_cons, List.sum_cons]
    rcases List.mem_cons.mp ha with rfl | ha
    · rw [List.map_congr_left fun c hc => h c fun e => hb (e ▸ hc)]
      omega
    · have := ih hn ha
      have := h b fun e => hb (e ▸ ha)
      omega

theorem length_filter_eq_sum {α : Type} (p : α → Bool) (l : List α) : (l.filter p).length = (l.map fun a => (p a).toNat).sum := by
  induction l with
  | nil => rfl
  | cons a l ih => cases h : p a <;> simp [h, ih]; omega

theorem nodup_allMasters : allMasters.Nodup := by decide

theorem nodup_allTargets : allTargets.Nodup := by decide

/-! ### The transactions of a window -/

/-- The requests of a queue that are bound to a window. -/
def boundIn (l : List Request) (w : WindowId) : Nat := (l.filter fun r => decide (r.boundWindow = some w)).length

theorem boundIn_cons (r : Request) (l : List Request) (w : WindowId) :
    boundIn (r :: l) w = r.boundWindow.toList.count w + boundIn l w := by
  unfold boundIn
  cases h : r.boundWindow with
  | none => simp [h]
  | some w' =>
    by_cases e : w' = w
    · simp [h, e]; omega
    · simp [h, e]

theorem boundIn_eq_count (l : List Request) (w : WindowId) : boundIn l w = (l.filterMap Request.boundWindow).count w := by
  induction l with
  | nil => rfl
  | cons r l ih =>
    rw [boundIn_cons, ih]
    cases h : r.boundWindow with
    | none => simp [h]
    | some w' => by_cases e : w' = w <;> simp [h, e, Nat.add_comm]

/-- The single-target transactions and the mirror writes of a window that stand at a target port. -/
def TargetPort.carries (p : TargetPort) (w : WindowId) : Nat :=
  (allXids.filter fun x => (p.record x).any fun r => r.holdsCount w).length +
    (p.mirrors.filter fun r => decide (r.window = w)).length

/-- Every transaction bound to a window that has not ended. -/
def State.transactionsOf (s : State) (w : WindowId) : Nat := s.boundTo w + s.outstandingOf w + s.mirrorsOf w

theorem State.transactionsOf_eq (s : State) (w : WindowId) :
    s.transactionsOf w = (allMasters.map fun m => boundIn (s.port m).inbound w).sum +
      (allTargets.map fun i => (s.target i).carries w).sum := by
  simp only [State.transactionsOf, State.boundTo, State.outstandingOf, State.mirrorsOf, TargetPort.carries, boundIn, allTargets,
    List.map_cons, List.map_nil, List.sum_cons, List.sum_nil]
  omega

theorem State.transactionsOf_congr (hp : ∀ m, (t.port m).inbound = (s.port m).inbound)
    (hg : ∀ i w, (t.target i).carries w = (s.target i).carries w) (w : WindowId) : t.transactionsOf w = s.transactionsOf w := by
  simp only [State.transactionsOf_eq, hp, hg]

theorem State.transactionsOf_setPort (s : State) (m : MasterId) (p : MasterPort) (w : WindowId) :
    (s.setPort m p).transactionsOf w + boundIn (s.port m).inbound w = s.transactionsOf w + boundIn p.inbound w := by
  have h := sum_map_change (f := fun k => boundIn ((s.setPort m p).port k).inbound w)
    (g := fun k => boundIn (s.port k).inbound w) nodup_allMasters (mem_allMasters m) fun k hk => by simp [Ne.symm hk]
  simp only [State.transactionsOf_eq, State.setPort_target]
  simp only [State.setPort_port, if_true] at h ⊢
  omega

theorem State.transactionsOf_setTarget (s : State) (i : TargetId) (p : TargetPort) (w : WindowId) :
    (s.setTarget i p).transactionsOf w + (s.target i).carries w = s.transactionsOf w + p.carries w := by
  have h := sum_map_change (f := fun j => ((s.setTarget i p).target j).carries w) (g := fun j => (s.target j).carries w)
    nodup_allTargets (mem_allTargets i) fun k hk => by simp [Ne.symm hk]
  simp only [State.transactionsOf_eq, State.setTarget_port]
  simp only [State.setTarget_target, if_true] at h ⊢
  omega

/-! ### What a target port carries -/

/-- The count of a window that a record holds. -/
theorem OutRecord.holdsCount_toNat (r : OutRecord) (w : WindowId) :
    (r.holdsCount w).toNat = if r.leg = none then r.window.toList.count w else 0 := by
  unfold OutRecord.holdsCount
  cases r.leg <;> cases h : r.window with
  | none => simp
  | some w' => by_cases e : w' = w <;> simp [e]

theorem TargetPort.carries_congr {p q : TargetPort} (h : p.SameTraffic q) (w : WindowId) : q.carries w = p.carries w := by
  have held (a b : Option OutRecord) (h : a.map OutRecord.steady = b.map OutRecord.steady) :
      a.any (fun r => r.holdsCount w) = b.any fun r => r.holdsCount w := by
    cases a <;> cases b <;> simp_all [OutRecord.steady, OutRecord.holdsCount]
  unfold TargetPort.carries
  rw [h.mirrors]
  simp only [fun x => held _ _ (h.records x)]

/-- What a target port carries after one record and the mirror records have changed. -/
theorem TargetPort.carries_put {p q : TargetPort} {x : Xid} {v : Option OutRecord} (hr : q.records = p.records.put x v)
    (w : WindowId) :
    q.carries w + ((p.record x).any fun r => r.holdsCount w).toNat + (p.mirrors.map (·.window)).count w =
      p.carries w + (v.any fun r => r.holdsCount w).toNat + (q.mirrors.map (·.window)).count w := by
  have h := sum_map_change (f := fun y => ((q.record y).any fun r => r.holdsCount w).toNat)
    (g := fun y => ((p.record y).any fun r => r.holdsCount w).toNat) (List.nodup_finRange 16) (mem_allXids x)
    fun y hy => by simp [TargetPort.record, hr, Ne.symm hy]
  have hx : q.record x = v := by simp [TargetPort.record, hr]
  have mirrors (l : List MirrorRecord) : (l.filter fun r => decide (r.window = w)).length = (l.map (·.window)).count w := by
    induction l with
    | nil => rfl
    | cons r l ih => by_cases e : r.window = w <;> simp [e, ih]
  simp only [TargetPort.carries, length_filter_eq_sum (fun x => (Option.any _ _)), mirrors, allXids]
  rw [hx] at h
  omega

/-- What a target port carries after its mirror records alone have changed. -/
theorem TargetPort.carries_mirrors (p : TargetPort) (ms : List MirrorRecord) (w : WindowId) :
    TargetPort.carries { p with mirrors := ms } w + (p.mirrors.map (·.window)).count w =
      p.carries w + (ms.map (·.window)).count w := by
  have h := TargetPort.carries_put (p := p) (q := { p with mirrors := ms }) (x := 0) (v := p.record 0)
    (by simp [TargetPort.record]) w
  simp only at h
  omega

theorem TargetPort.carries_freeXid {p : TargetPort} {x : Xid} {r : OutRecord} (h : p.record x = some r) (w : WindowId) :
    (p.freeXid x).carries w + (if r.leg = none then r.window.toList.count w else 0) = p.carries w := by
  have := TargetPort.carries_put (p := p) (q := p.freeXid x) (x := x) (v := none) rfl w
  rw [h] at this
  simp only [Option.any_some, Option.any_none, OutRecord.holdsCount_toNat, Bool.toNat_false, TargetPort.freeXid] at this ⊢
  omega

/-! ### Counts with falls to come -/

/-- Every window counts its transactions, and one more for each fall of its count that is still to come. -/
def State.CountsBut (s : State) (falls : List WindowId) : Prop :=
  s.xidsOk ∧ ∀ w, (s.window w).inFlight = s.transactionsOf w + falls.count w ∧
    ((s.window w).state = .free → (s.window w).inFlight = 0)

theorem State.countsOk_iff (s : State) : s.countsOk ↔ s.CountsBut [] := Iff.rfl

/-- The traffic changes, and with it the falls to come, while the counts stand. -/
theorem State.CountsBut.change {l l' : List WindowId} (h : s.CountsBut l) (hx : t.xidsOk) (hw : t.windows = s.windows)
    (hl : ∀ w, t.transactionsOf w + l'.count w = s.transactionsOf w + l.count w) : t.CountsBut l' := by
  refine ⟨hx, fun w => ?_⟩
  rw [show t.window w = s.window w by simp [State.window, hw], hl w]
  exact h.2 w

theorem State.CountsBut.calm {l : List WindowId} (h : s.CountsBut l) (hc : s.Calm t) : t.CountsBut l := by
  refine ⟨h.1.calm hc, fun w => ?_⟩
  obtain ⟨hn, hf⟩ := h.2 w
  rw [State.transactionsOf_congr (fun m => (hc.ports m).inbound) (fun i => TargetPort.carries_congr (hc.targets i)),
    (hc.windows w).count]
  exact ⟨hn, fun e => ((hc.windows w).count).symm.trans ((hc.windows w).free hf e)⟩

theorem State.CountsBut.setPort {l l' : List WindowId} {m : MasterId} {p : MasterPort} (h : s.CountsBut l)
    (hx : (s.setPort m p).xidsOk)
    (hb : ∀ w, boundIn p.inbound w + l'.count w = boundIn (s.port m).inbound w + l.count w) : (s.setPort m p).CountsBut l' :=
  h.change hx rfl fun w => by have := State.transactionsOf_setPort s m p w; have := hb w; omega

theorem State.CountsBut.setTarget {l l' : List WindowId} {i : TargetId} {p : TargetPort} (h : s.CountsBut l)
    (hx : (s.setTarget i p).xidsOk)
    (hb : ∀ w, p.carries w + l'.count w = (s.target i).carries w + l.count w) : (s.setTarget i p).CountsBut l' :=
  h.change hx rfl fun w => by have := State.transactionsOf_setTarget s i p w; have := hb w; omega

/-- The fall of a window's count takes it off the falls to come. -/
theorem State.CountsBut.countFalls {l : List WindowId} {w : WindowId} (h : s.CountsBut (w :: l)) :
    (s.countFalls w).CountsBut l := by
  refine ⟨h.1.countFalls w, fun w' => ?_⟩
  obtain ⟨hn, hf⟩ := h.2 w'
  rw [State.transactionsOf_congr (s := s) (fun m => by simp) (fun i w => by simp), State.countFalls_window]
  by_cases e : w = w'
  · subst e
    simp only [if_true, WindowRecord.fallen_inFlight]
    rw [List.count_cons_self] at hn
    refine ⟨by omega, fun hs => ?_⟩
    unfold WindowRecord.fallen at hs
    split at hs
    · next hr => exact hr.2
    · rw [hf hs]
  · rw [List.count_cons_of_ne e] at hn
    simp only [if_neg e]
    exact ⟨hn, hf⟩

theorem State.CountsBut.bindingEnds {l : List WindowId} {w : Option WindowId} (h : s.CountsBut (w.toList ++ l)) :
    (s.bindingEnds w).CountsBut l := by
  cases w with
  | none => exact h
  | some w => exact State.CountsBut.countFalls h

theorem State.CountsBut.foldl_countFalls {l : List WindowId} (h : s.CountsBut l) :
    (l.foldl State.countFalls s).CountsBut [] := by
  induction l generalizing s with
  | nil => exact h
  | cons w l ih => exact ih h.countFalls

/-! ### The moves -/

theorem Request.boundWindow_unbound {r : Request} {held : Bool} (h : r.binding = .unbound held) : r.boundWindow = none := by
  simp [Request.boundWindow, h]

theorem Request.boundWindow_bound {r : Request} {b : Binding} (h : r.binding = .bound b) : r.boundWindow = b.window := by
  simp [Request.boundWindow, h]

theorem State.boundIn_of_head {m : MasterId} {r : Request} (h : s.head m = some r) (w : WindowId) :
    boundIn (s.port m).inbound w = r.boundWindow.toList.count w + boundIn (s.port m).inbound.tail w := by
  rw [← boundIn_cons, ← State.inbound_of_head h]

/-- A head that leaves owes the fall of its window's count. -/
theorem State.CountsBut.leaveHead {m : MasterId} {r : Request} (h : s.CountsBut []) (hr : s.head m = some r) :
    (s.leaveHead m).CountsBut r.boundWindow.toList :=
  h.setPort (h.1.leaveHead m) fun w => by
    rw [State.boundIn_of_head hr]
    simp only [List.count_nil]
    omega

theorem State.CountsBut.leaveHead_unbound {m : MasterId} {r : Request} {held : Bool} (h : s.CountsBut []) (hr : s.head m = some r)
    (hu : r.binding = .unbound held) : (s.leaveHead m).CountsBut [] := by
  have := h.leaveHead hr
  rwa [Request.boundWindow_unbound hu] at this

theorem State.CountsBut.holdHead {m : MasterId} {r : Request} {held : Bool} (h : s.CountsBut []) (hr : s.head m = some r)
    (hu : r.binding = .unbound held) : (s.holdHead m).CountsBut [] := by
  have hx := h.1.holdHead hr
  rw [State.holdHead_of_head hr] at hx ⊢
  refine State.CountsBut.setPort (l := []) (l' := []) h hx fun w => ?_
  rw [boundIn_cons, State.boundIn_of_head hr, Request.boundWindow_unbound hu, Request.boundWindow_unbound rfl]

theorem State.CountsBut.bindHead {m : MasterId} {r : Request} {held : Bool} {b : Binding} (h : s.CountsBut [])
    (hr : s.head m = some r) (hu : r.binding = .unbound held) (hd : s.steered m r = .bind b) : (s.bindHead m b).CountsBut [] := by
  refine ⟨h.1.bindHead hr hd, fun w => ?_⟩
  obtain ⟨hn, hf⟩ := h.2 w
  obtain ⟨p, hp, hport⟩ : ∃ p : MasterPort, p.inbound = { r with binding := .bound b } :: (s.port m).inbound.tail ∧
      ∀ k, (s.bindHead m b).port k = (s.setPort m p).port k :=
    ⟨_, rfl, fun k => by rw [State.bindHead_port hr, State.setPort_port]⟩
  have hb := State.transactionsOf_setPort s m p w
  have hc : (s.bindHead m b).transactionsOf w = (s.setPort m p).transactionsOf w :=
    State.transactionsOf_congr (fun k => by rw [hport]) (fun i w => by rw [State.bindHead_target]; split <;> rfl) w
  rw [hp, boundIn_cons, State.boundIn_of_head hr, Request.boundWindow_unbound hu, Request.boundWindow_bound rfl] at hb
  simp only [Option.toList_none, List.count_nil] at hb
  show _ = (s.bindHead m b).transactionsOf w ∧ _
  change _ = s.transactionsOf w at hn
  rw [hc, State.bindHead_window]
  split
  · next hw =>
    rw [hw] at hb
    simp only [Option.toList_some, List.count_singleton_self] at hb
    refine ⟨by show (s.window w).inFlight + 1 = _; omega, fun e => ?_⟩
    have := ((steered_bind hd).1 w hw).1
    rw [show (s.window w).risen.state = (s.window w).state from rfl, this] at e
    cases e
  · next hw =>
    have : b.window.toList.count w = 0 := by
      cases hw' : b.window with
      | none => rfl
      | some w' => exact List.count_eq_zero.mpr (by simp_all [eq_comm])
    exact ⟨by omega, hf⟩

theorem State.CountsBut.stopWaiting (h : s.CountsBut []) (i : TargetId) (m : MasterId) : (s.stopWaiting i m).CountsBut [] :=
  State.CountsBut.setTarget (l := []) (l' := []) h (h.1.stopWaiting i m) fun _ => rfl

theorem State.CountsBut.reexamineHead (h : s.CountsBut []) (i : TargetId) (m : MasterId) : (s.reexamineHead i m).CountsBut [] := by
  have out := h.stopWaiting i m
  rcases reexamineHead_cases s i m with ⟨-, he⟩ | ⟨r, b, code, hr, hb, -, he⟩ | ⟨r, b, t1, a1, t2, a2, hr, hb, -, -, he⟩
  · rw [he]; exact out
  · rw [he]
    have left := State.CountsBut.leaveHead (r := r) out (by simpa using hr)
    rw [Request.boundWindow_bound hb] at left
    refine State.CountsBut.bindingEnds (l := []) ?_
    rw [List.append_nil]
    exact left.calm (.complete _ m _)
  · have hx := h.1.reexamineHead i m
    rw [he, State.rebindHead_of_head (by simpa using hr)] at *
    refine State.CountsBut.setPort (l := []) (l' := []) out hx fun w => ?_
    rw [boundIn_cons, State.boundIn_of_head (r := r) (by simpa using hr), Request.boundWindow_bound hb,
      Request.boundWindow_bound rfl]

theorem State.CountsBut.legEnds (h : s.CountsBut []) (ref : LegRef) (i : TargetId) (x : Xid) (o : EndOutcome) :
    (s.legEnds ref i x o).CountsBut [] := by
  have hx (ms : List MirrorRecord) : (s.setTarget ref.holder { s.target ref.holder with mirrors := ms }).xidsOk :=
    h.1.setTarget (TargetPort.xidsOk_of_frame rfl (fun _ => .rfl) (h.1.1 _))
  rcases legEnds_cases s ref i x o with he | ⟨ms, hms, he⟩ | ⟨r, before, after, told, hm, hc, he⟩
  · rw [he]; exact h
  · rw [he]
    refine State.CountsBut.setTarget (l := []) (l' := []) h (hx ms) fun w => ?_
    have := TargetPort.carries_mirrors (s.target ref.holder) ms w
    rw [hms] at this
    simp only [List.count_nil] at this ⊢
    omega
  · rw [he]
    have removed : (s.setTarget ref.holder { s.target ref.holder with mirrors := before ++ after }).CountsBut [r.window] :=
      State.CountsBut.setTarget (l := []) h (hx _) fun w => by
        have := TargetPort.carries_mirrors (s.target ref.holder) (before ++ after) w
        rw [hm] at this
        simp only [List.map_append, List.map_cons, List.count_append, List.count_cons, List.count_nil] at this ⊢
        omega
    exact (removed.calm hc).countFalls

theorem State.CountsBut.endTransaction (h : s.CountsBut []) (i : TargetId) (x : Xid) (o : EndOutcome) (data : List Byte) :
    (s.endTransaction i x o data).CountsBut [] := by
  rcases endTransaction_cases s i x o data with ⟨-, he⟩ | ⟨r, told, hr, hl, hc, he⟩ | ⟨r, ref, hr, hl, he⟩
  · rw [he]; exact h
  · rw [he]
    have hx : (s.setTarget i ((s.target i).freeXid x)).xidsOk := h.1.setTarget ((h.1.1 i).freeXid (by simp [hr]))
    have freed : (s.setTarget i ((s.target i).freeXid x)).CountsBut (r.window.toList ++ []) :=
      State.CountsBut.setTarget (l := []) h hx fun w => by
        have := TargetPort.carries_freeXid hr w
        simp only [hl, if_true, List.append_nil, List.count_nil] at this ⊢
        omega
    exact (freed.calm hc).bindingEnds
  · rw [he]
    have hx : (s.setTarget i ((s.target i).freeXid x)).xidsOk := h.1.setTarget ((h.1.1 i).freeXid (by simp [hr]))
    have freed : (s.setTarget i ((s.target i).freeXid x)).CountsBut [] :=
      State.CountsBut.setTarget (l := []) (l' := []) h hx fun w => by
        have := TargetPort.carries_freeXid hr w
        simp only [hl, reduceCtorEq, if_false, List.count_nil] at this ⊢
        omega
    exact freed.legEnds ref i x o

/-- A target port that gives its next xid to a transaction carries it from then on. -/
theorem TargetPort.carries_granted {p : TargetPort} {x : Xid} {xs : List Xid} (h : p.xidsOk) (hf : p.freeList = x :: xs)
    (o : OutRecord) (m : MasterId) (held : List MirrorRecord) (w : WindowId) :
    (p.granted x o m held).carries w =
      p.carries w + (if o.leg = none then o.window.toList.count w else 0) + (held.map (·.window)).count w := by
  have hx : p.record x = none := (h.2 x).mp (by simp [hf])
  have := TargetPort.carries_put (p := p) (q := p.granted x o m held) (x := x) (v := some o) rfl w
  rw [hx, show (p.granted x o m held).mirrors = p.mirrors ++ held from rfl] at this
  simp only [Option.any_some, Option.any_none, OutRecord.holdsCount_toNat, Bool.toNat_false, List.map_append,
    List.count_append] at this
  omega

theorem State.CountsBut.xidGrant (h : s.CountsBut []) (i : TargetId) : (s.xidGrant i).CountsBut [] := by
  rcases xidGrant_cases s i with he | ⟨m, r, b, x, xs, o, held, hr, hb, -, hf, ho, hc⟩
  · rw [he]; exact h
  · have left := State.CountsBut.leaveHead h hr
    have hx := left.1.setTarget (i := i) ((h.1.1 i).granted hf o m held)
    refine State.CountsBut.calm (l := []) (left.setTarget hx fun w => ?_) hc
    have hw : (if o.leg = none then o.window.toList.count w else 0) + (held.map (·.window)).count w =
        b.window.toList.count w := by
      rcases ho with ⟨hl, hw, rfl⟩ | ⟨hl, hw⟩
      · simp [hl, hw]
      · simp [hl, hw]
    have := TargetPort.carries_granted (h.1.1 i) hf o m held w
    rw [Request.boundWindow_bound hb]
    simp only [State.leaveHead_frame, List.count_nil]
    omega

theorem State.CountsBut.mirrorXidGrant (h : s.CountsBut []) (i : TargetId) : (s.mirrorXidGrant i).CountsBut [] := by
  rcases mirrorXidGrant_cases s i h.1.2.2 with he |
    ⟨m, r, b, t1, t2, x1, xs1, x2, xs2, o1, o2, held, hr, hb, -, hd, hf1, hf2, ho1, ho2, hw, hc⟩
  · rw [he]; exact h
  · have left := State.CountsBut.leaveHead h hr
    have hx1 := left.1.setTarget (i := t1) ((h.1.1 t1).granted hf1 o1 m held)
    have hx2 := hx1.setTarget (i := t2) ((h.1.1 t2).granted hf2 o2 m [])
    have first : ((s.leaveHead m).setTarget t1 ((s.target t1).granted x1 o1 m held)).CountsBut [] :=
      left.setTarget hx1 fun w => by
        have := TargetPort.carries_granted (h.1.1 t1) hf1 o1 m held w
        rw [Request.boundWindow_bound hb, ← hw]
        simp only [State.leaveHead_frame, List.count_nil, if_neg ho1] at this ⊢
        omega
    refine State.CountsBut.calm (l := []) (first.setTarget hx2 fun w => ?_) hc
    have := TargetPort.carries_granted (h.1.1 t2) hf2 o2 m [] w
    simp only [State.setTarget_target, if_neg hd, State.leaveHead_frame, if_neg ho2, List.map_nil, List.count_nil] at this ⊢
    omega

theorem State.CountsBut.setPort_same (h : s.CountsBut []) {m : MasterId} {p : MasterPort}
    (hp : p.inbound = (s.port m).inbound) : (s.setPort m p).CountsBut [] :=
  State.CountsBut.setPort (l := []) (l' := []) h (h.1.setPort_same hp) fun w => by rw [hp]

theorem State.CountsBut.lowerPort (h : s.CountsBut []) (m : MasterId) : (s.lowerPort m).CountsBut [] := by
  unfold State.lowerPort
  exact h.setPort_same rfl

theorem State.CountsBut.takeOwnPart (h : s.CountsBut []) (m : MasterId) : (s.takeOwnPart m).CountsBut [] := by
  have emptied : (s.setPort m (s.port m).emptied).CountsBut ((s.port m).inbound.filterMap Request.boundWindow) :=
    State.CountsBut.setPort (l := []) h (h.1.setPort (by simp [MasterPort.emptied])) fun w => by
      rw [boundIn_eq_count (s.port m).inbound, show (s.port m).emptied.inbound = [] from rfl]
      simp [boundIn]
  unfold State.takeOwnPart
  exact State.CountsBut.setPort_same emptied.foldl_countFalls rfl

theorem State.CountsBut.enqueue (h : s.CountsBut []) {m : MasterId} (f : RequestFrame) (hx : (s.enqueue m (requestOf f)).xidsOk) :
    (s.enqueue m (requestOf f)).CountsBut [] :=
  State.CountsBut.setPort (l := []) (l' := []) h hx fun w => by
    simp [boundIn_eq_count, Request.boundWindow_unbound (r := requestOf f) rfl]

theorem State.CountsBut.cleanTarget (h : s.CountsBut []) (m : MasterId) (i : TargetId) : (s.cleanTarget m i).CountsBut [] :=
  State.CountsBut.setTarget (l := []) (l' := []) h
    (h.1.setTarget (TargetPort.xidsOk_of_frame rfl (fun _ => .rfl) (h.1.1 i))) fun _ => rfl

theorem reset_countsOk (pin : ResetPin) (queue : List Instr) :
    State.countsOk { State.reset with rstN := pin, pending := queue } := by
  refine ⟨reset_xidsOk pin queue, fun w => ?_⟩
  simp [State.window, State.reset, WindowRecord.freeRecord, State.boundTo, State.outstandingOf, State.mirrorsOf, State.port,
    State.target, MasterPort.resetPort, TargetPort.resetPort, TargetPort.record, allMasters, allTargets]

theorem State.CountsBut.move (h : s.CountsBut []) (hm : s.Move t) : t.CountsBut [] := by
  have hx := h.1.move hm
  cases hm with
  | calm hc => exact h.calm hc
  | reset pin queue => exact (State.countsOk_iff _).mp (reset_countsOk pin queue)
  | headLeaves hr hu => exact h.leaveHead_unbound hr hu
  | headBound hr hu hd => exact h.bindHead hr hu hd
  | headHeld hr hu => exact h.holdHead hr hu
  | reexamined i m => exact h.reexamineHead i m
  | ended i x o data => exact h.endTransaction i x o data
  | granted i => exact h.xidGrant i
  | mirrorGranted i => exact h.mirrorXidGrant i
  | enqueued f ht => exact h.enqueue f hx
  | cleanupStarts m => exact h.takeOwnPart m
  | linkDrops m => exact (h.lowerPort m).takeOwnPart m
  | lowered hl => exact h.lowerPort _
  | trained m => exact h.setPort_same (MasterPort.comeUp_inbound _)
  | targetCleaned hl => exact h.cleanTarget _ _
  | partTaken hl hw => exact h.setPort_same (MasterPort.comeUp_inbound _)

/-- Settles O55: every move keeps the counts, and a step is a sequence of moves. -/
theorem theInFlightCountIsTheTransactionsBound : Obligations.TheInFlightCountIsTheTransactionsBound := by
  unfold Obligations.TheInFlightCountIsTheTransactionsBound
  exact fun s t hs h => t.countsOk_iff.mpr (step_keeps (fun _ _ => State.CountsBut.move) (s.countsOk_iff.mp hs) h)

end Sys2Proof.Machine
end

section
/-! Ports: every move keeps the master ports legal and the waiting sets following the bound heads (O58). -/

namespace Sys2Proof.Machine

-- One proof after the other, as in the tests: together they would take too many threads, and their stacks too much memory.
set_option Elab.async false

variable {s t : State}

/-! ### One master port and where its head waits -/

/-- The request waits for an xid at this target (R83). -/
def Request.waitsAt (r : Request) (i : TargetId) : Bool :=
  match r.binding with
  | .bound b => decide (i ∈ b.route.waitsAt)
  | .unbound _ => false

theorem Request.waitsAt_unbound {r : Request} {held : Bool} (h : r.binding = .unbound held) (i : TargetId) :
    r.waitsAt i = false := by
  simp [Request.waitsAt, h]

theorem Request.waitsAt_bound {r : Request} {b : Binding} (h : r.binding = .bound b) (i : TargetId) :
    r.waitsAt i = decide (i ∈ b.route.waitsAt) := by
  simp [Request.waitsAt, h]

/-- The head of the port's queue waits at this target. -/
def MasterPort.headWaits (p : MasterPort) (i : TargetId) : Bool := p.inbound.head?.any fun r => r.waitsAt i

theorem State.headWaitsAt_eq (s : State) (m : MasterId) (i : TargetId) : s.headWaitsAt m i = (s.port m).headWaits i := by
  unfold State.headWaitsAt State.headBinding MasterPort.headWaits State.head
  cases (s.port m).inbound.head? with
  | none => rfl
  | some r => cases hb : r.binding <;> simp [Request.waitsAt, hb]

/-- The port is legal where these are the targets whose waiting sets its master stands in (R83, R148 to R150, R157, R158). -/
def MasterPort.legal (p : MasterPort) (waiting : TargetId → Bool) : Prop :=
  p.ok ∧ ∀ i, (p.headWaits i = true → waiting i = true) ∧
    (waiting i = true → p.headWaits i = true ∨ CleanupBlock.target i ∈ p.cleanup.left)

/-- The targets whose waiting sets a master stands in. -/
def State.waitsOf (s : State) (m : MasterId) (i : TargetId) : Bool := (s.target i).waiting.get m

theorem State.portsOk_iff (s : State) : s.portsOk ↔ ∀ m, (s.port m).legal (s.waitsOf m) := by
  simp only [State.portsOk, State.waitingOk, MasterPort.legal, State.headWaitsAt_eq, State.waitsOf, forall_and]

/-- A port with requests is UP with no cleanup under way, and its master stands in the waiting sets where its head waits. -/
theorem MasterPort.legal_cons {p : MasterPort} {r : Request} {rest : List Request} (h : p.inbound = r :: rest)
    (waiting : TargetId → Bool) :
    p.legal waiting ↔ p.link = .up ∧ p.trained = true ∧ p.cleanup = .clear ∧ p.inbound.length ≤ Config.inboundPlaces ∧
      (∀ q ∈ rest, q.binding = .unbound false) ∧ ∀ i, waiting i = r.waitsAt i := by
  have hw (i : TargetId) : p.headWaits i = r.waitsAt i := by simp [MasterPort.headWaits, h]
  unfold MasterPort.legal MasterPort.ok
  simp only [hw, h, List.tail_cons, reduceCtorEq, imp_false]
  constructor
  · rintro ⟨⟨hn, hl, hc, hr, ht, -, -, -⟩, hi⟩
    have hl : p.link = .up := by cases e : p.link <;> simp_all
    have hc := not_not.mp hc
    refine ⟨hl, ht hl, hc, hn, hr, fun i => ?_⟩
    have := hi i
    rw [hc] at this
    simp only [CleanupState.left, List.not_mem_nil, or_false] at this
    exact Bool.eq_iff_iff.mpr ⟨this.2, this.1⟩
  · rintro ⟨hl, ht, hc, hn, hr, hi⟩
    simpa [hl, ht, hc, CleanupState.left, hi] using ⟨hn, hr⟩

/-- A port without requests has its link as training and cleanup call for, and its master stands in no waiting set but those that
a cleanup under way has yet to take it out of. -/
theorem MasterPort.legal_nil {p : MasterPort} (h : p.inbound = []) (waiting : TargetId → Bool) :
    p.legal waiting ↔ (p.link = .up → p.trained = true) ∧ (p.cleanup = .clear → p.trained = true → p.link = .up) ∧
      p.cleanup.left.Nodup ∧ (p.cleanup ≠ .clear → p.cleanup.left ≠ []) ∧
      ∀ i, waiting i = true → CleanupBlock.target i ∈ p.cleanup.left := by
  have hw (i : TargetId) : p.headWaits i = false := by simp [MasterPort.headWaits, h]
  unfold MasterPort.legal MasterPort.ok
  simp [hw, h]
  tauto

/-- The head leaves, and its master waits nowhere. -/
theorem MasterPort.legal.tail {p : MasterPort} {w w' : TargetId → Bool} {r : Request} {rest : List Request} (h : p.legal w)
    (hp : p.inbound = r :: rest) (hw : ∀ i, w' i = false) : MasterPort.legal { p with inbound := p.inbound.tail } w' := by
  obtain ⟨hl, ht, hc, hn, hr, -⟩ := (MasterPort.legal_cons hp w).mp h
  rw [hp, List.tail_cons]
  cases rest with
  | nil =>
    refine (MasterPort.legal_nil rfl w').mpr ?_
    simp [hl, ht, hc, hw, CleanupState.left]
  | cons q rest =>
    rw [hp] at hn
    refine (MasterPort.legal_cons rfl w').mpr ⟨hl, ht, hc, Nat.le_of_succ_le hn, fun x hx => hr x (by simp [hx]), fun i => ?_⟩
    rw [hw, Request.waitsAt_unbound (hr q (by simp))]

/-- The head is decided, or its binding replaced, and its master waits where it now does. -/
theorem MasterPort.legal.rebound {p : MasterPort} {w w' : TargetId → Bool} {r q : Request} {rest : List Request} (h : p.legal w)
    (hp : p.inbound = r :: rest) (hw : ∀ i, w' i = q.waitsAt i) :
    MasterPort.legal { p with inbound := q :: p.inbound.tail } w' := by
  obtain ⟨hl, ht, hc, hn, hr, -⟩ := (MasterPort.legal_cons hp w).mp h
  rw [hp] at hn ⊢
  exact (MasterPort.legal_cons rfl w').mpr ⟨hl, ht, hc, hn, hr, hw⟩

theorem MasterPort.legal.waiting_head {p : MasterPort} {w : TargetId → Bool} {r : Request} {rest : List Request} (h : p.legal w)
    (hp : p.inbound = r :: rest) (i : TargetId) : w i = r.waitsAt i :=
  ((MasterPort.legal_cons hp w).mp h).2.2.2.2.2 i

/-- The master leaves a waiting set where its head does not wait. -/
theorem MasterPort.legal.lessWaiting {p : MasterPort} {w w' : TargetId → Bool} (h : p.legal w)
    (hw : ∀ i, w' i = w i ∨ (w' i = false ∧ p.headWaits i = false)) : p.legal w' := by
  refine ⟨h.1, fun i => ?_⟩
  obtain ⟨h1, h2⟩ := h.2 i
  rcases hw i with e | ⟨e, e'⟩
  · rw [e]; exact ⟨h1, h2⟩
  · simp [e, e']

/-- A port whose queue is empty where its link is DOWN or a cleanup is under way. -/
theorem MasterPort.legal.inbound_nil {p : MasterPort} {w : TargetId → Bool} (h : p.legal w)
    (hp : ¬(p.link = .up ∧ p.cleanup = .clear)) : p.inbound = [] := by
  cases hi : p.inbound with
  | nil => rfl
  | cons r rest =>
    obtain ⟨hl, -, hc, -⟩ := (MasterPort.legal_cons hi w).mp h
    exact absurd ⟨hl, hc⟩ hp

theorem MasterPort.SameButTags.legal {p q : MasterPort} (h : p.SameButTags q) {w : TargetId → Bool} (hp : p.legal w) : q.legal w := by
  rw [show q = _ from h]
  exact hp

theorem MasterPort.not_clear_of_mem_left {p : MasterPort} {b : CleanupBlock} (h : b ∈ p.cleanup.left) : p.cleanup ≠ .clear := by
  intro e
  rw [e] at h
  cases h

theorem MasterPort.legal.enqueued {p : MasterPort} {w : TargetId → Bool} (h : p.legal w) (ht : p.takesRequests = true)
    (f : RequestFrame) : MasterPort.legal { p with inbound := p.inbound ++ [requestOf f] } w := by
  simp only [MasterPort.takesRequests, Bool.and_eq_true, decide_eq_true_eq] at ht
  obtain ⟨⟨hl, hc⟩, hn⟩ := ht
  cases hi : p.inbound with
  | nil =>
    obtain ⟨ht, -, -, -, hw⟩ := (MasterPort.legal_nil hi w).mp h
    refine (MasterPort.legal_cons rfl w).mpr ⟨hl, ht hl, hc, by simp [Config.inboundPlaces], by simp, fun i => ?_⟩
    rw [Request.waitsAt_unbound rfl, ← Bool.not_eq_true]
    exact fun e => MasterPort.not_clear_of_mem_left (hw i e) hc
  | cons r rest =>
    obtain ⟨-, ht, -, -, hr, hw⟩ := (MasterPort.legal_cons hi w).mp h
    rw [hi] at hn
    refine (MasterPort.legal_cons rfl w).mpr ⟨hl, ht, hc, by simpa using hn, fun q hq => ?_, hw⟩
    rcases List.mem_append.mp hq with hq | hq
    · exact hr q hq
    · rw [List.mem_singleton.mp hq]; rfl

theorem target_mem_allBlocks (i : TargetId) : CleanupBlock.target i ∈ allBlocks := by revert i; decide

/-- A port that begins a cleanup. -/
theorem MasterPort.legal_handedOver {p : MasterPort} (h : p.link = .up → p.trained = true) (w : TargetId → Bool) :
    p.emptied.handedOver.legal w := by
  refine (MasterPort.legal_nil rfl w).mpr ⟨h, nofun, ?_, fun _ => ?_, fun i _ => target_mem_allBlocks i⟩
  · show allBlocks.Nodup
    decide
  · show allBlocks ≠ []
    decide

theorem MasterPort.legal.lowered {p : MasterPort} {w : TargetId → Bool} (h : p.legal w)
    (hp : ¬(p.link = .up ∧ p.cleanup = .clear)) : MasterPort.legal { p with link := .down, trained := false } w := by
  have hi := h.inbound_nil hp
  obtain ⟨-, -, hd, hn, hw⟩ := (MasterPort.legal_nil hi w).mp h
  exact (MasterPort.legal_nil (p := { p with link := .down, trained := false }) hi w).mpr
    ⟨fun e => by simp at e, fun _ e => by simp at e, hd, hn, hw⟩

/-- A port whose queue is empty comes UP if its link is trained and its cleanup is over. -/
theorem MasterPort.legal_comeUp {p : MasterPort} {w : TargetId → Bool} (hi : p.inbound = [])
    (hl : p.link = .up → p.trained = true) (hd : p.cleanup.left.Nodup) (hn : p.cleanup ≠ .clear → p.cleanup.left ≠ [])
    (hw : ∀ i, w i = true → CleanupBlock.target i ∈ p.cleanup.left) : p.comeUp.legal w := by
  unfold MasterPort.comeUp
  split
  · next h => exact (MasterPort.legal_nil (p := { p with link := .up }) hi w).mpr ⟨fun _ => h.1, fun _ _ => rfl, hd, hn, hw⟩
  · next h => exact (MasterPort.legal_nil hi w).mpr ⟨hl, fun hc ht => absurd ⟨ht, hc⟩ h, hd, hn, hw⟩

theorem MasterPort.legal.trained {p : MasterPort} {w : TargetId → Bool} (h : p.legal w) :
    (MasterPort.comeUp { p with trained := true }).legal w := by
  by_cases hi : p.inbound = []
  · obtain ⟨-, -, hd, hn, hw⟩ := (MasterPort.legal_nil hi w).mp h
    exact MasterPort.legal_comeUp (p := { p with trained := true }) hi (fun _ => rfl) hd hn hw
  · obtain ⟨r, rest, hi⟩ := List.exists_cons_of_ne_nil hi
    obtain ⟨hl, -, hc, hrest⟩ := (MasterPort.legal_cons hi w).mp h
    rw [MasterPort.comeUp, if_pos ⟨rfl, hc⟩]
    exact (MasterPort.legal_cons (p := { p with trained := true, link := .up }) hi w).mpr ⟨rfl, rfl, hc, hrest⟩

theorem CleanupState.left_without (c : CleanupState) (b : CleanupBlock) : (c.without b).left = c.left.erase b := by
  unfold CleanupState.without
  cases c with
  | clear => rfl
  | underWay l =>
    by_cases h : (l.erase b).isEmpty = true
    · simp [CleanupState.left, List.isEmpty_iff.mp h]
    · simp [CleanupState.left, h]

theorem CleanupState.without_left_ne (c : CleanupState) (b : CleanupBlock) (h : c.without b ≠ .clear) : (c.without b).left ≠ [] := by
  unfold CleanupState.without at h ⊢
  cases c with
  | clear => exact absurd rfl h
  | underWay l =>
    dsimp only at h ⊢
    split at h
    · exact absurd rfl h
    · next he =>
      rw [if_neg he]
      exact fun e => he (List.isEmpty_iff.mpr e)

theorem MasterPort.legal.partTaken {p : MasterPort} {w : TargetId → Bool} {b : CleanupBlock} (h : p.legal w)
    (hb : b ∈ p.cleanup.left) (hw : ∀ i, b = .target i → w i = false) :
    (MasterPort.comeUp { p with cleanup := p.cleanup.without b }).legal w := by
  have hi := h.inbound_nil fun e => MasterPort.not_clear_of_mem_left hb e.2
  obtain ⟨hl, -, hd, -, hwait⟩ := (MasterPort.legal_nil hi w).mp h
  refine MasterPort.legal_comeUp hi hl ?_ (CleanupState.without_left_ne _ b) fun i hwi => ?_
  · show (p.cleanup.without b).left.Nodup
    rw [CleanupState.left_without]
    exact hd.erase b
  · show _ ∈ (p.cleanup.without b).left
    rw [CleanupState.left_without]
    refine (List.mem_erase_of_ne fun e => ?_).mpr (hwait i hwi)
    rw [hw i e.symm] at hwi
    cases hwi

/-! ### Changes of the part -/

/-- A change that touches one master's port and its places in the waiting sets only. -/
theorem State.portsOk.change (h : s.portsOk) (m : MasterId) (hp : ∀ k, m ≠ k → t.port k = s.port k)
    (hw : ∀ k, m ≠ k → ∀ i, t.waitsOf k i = s.waitsOf k i) (hm : (s.port m).legal (s.waitsOf m) → (t.port m).legal (t.waitsOf m)) :
    t.portsOk := by
  rw [State.portsOk_iff] at h ⊢
  intro k
  by_cases e : m = k
  · subst e; exact hm (h m)
  · rw [hp k e, show t.waitsOf k = s.waitsOf k from funext (hw k e)]
    exact h k

/-- A change of one master's port. -/
theorem State.portsOk.setPort (h : s.portsOk) {m : MasterId} {p : MasterPort}
    (hp : (s.port m).legal (s.waitsOf m) → p.legal (s.waitsOf m)) : (s.setPort m p).portsOk :=
  h.change m (fun k e => by simp [e]) (fun _ _ _ => rfl) fun hm => by
    rw [show (s.setPort m p).port m = p by simp]
    exact hp hm

/-- A change that leaves the ports but for their tags, and the waiting sets. -/
theorem State.portsOk.of_frame (h : s.portsOk) (hp : ∀ m, (s.port m).SameButTags (t.port m))
    (hw : ∀ i, (t.target i).waiting = (s.target i).waiting) : t.portsOk := by
  rw [State.portsOk_iff] at h ⊢
  intro m
  rw [show t.waitsOf m = s.waitsOf m from funext fun i => by simp only [State.waitsOf, hw]]
  exact (hp m).legal (h m)

theorem State.portsOk.calm (h : s.portsOk) (hc : s.Calm t) : t.portsOk := h.of_frame hc.ports fun i => (hc.targets i).waiting

theorem State.portsOk.legalAt (h : s.portsOk) (m : MasterId) : (s.port m).legal (s.waitsOf m) := s.portsOk_iff.mp h m

/-- A head that waits nowhere else leaves its queue and the waiting sets it stands in. -/
theorem State.portsOk.leaves (h : s.portsOk) {m : MasterId} {r : Request} (hr : s.head m = some r)
    (hp : ∀ k, t.port k = (s.leaveHead m).port k) (hw : ∀ k i, t.waitsOf k i = (!decide (m = k) && s.waitsOf k i)) : t.portsOk :=
  h.change m (fun k e => by rw [hp, State.leaveHead_port, if_neg e]) (fun k e i => by simp [hw, e]) fun hm => by
    rw [hp, State.leaveHead_port, if_pos rfl]
    exact hm.tail (State.inbound_of_head hr) fun i => by simp [hw]

theorem State.portsOk.bindingEnds (h : s.portsOk) (w : Option WindowId) : (s.bindingEnds w).portsOk :=
  h.of_frame (fun m => by simp [MasterPort.SameButTags]) fun i => by simp

/-! ### The moves -/

theorem State.portsOk.leaveHead (h : s.portsOk) {m : MasterId} {r : Request} {held : Bool} (hr : s.head m = some r)
    (hu : r.binding = .unbound held) : (s.leaveHead m).portsOk := by
  refine h.leaves hr (fun _ => rfl) fun k i => ?_
  by_cases e : m = k
  · subst e
    have := (h.legalAt m).waiting_head (State.inbound_of_head hr) i
    rw [Request.waitsAt_unbound hu] at this
    simpa [State.waitsOf] using this
  · simp [e, State.waitsOf]

theorem State.portsOk.holdHead (h : s.portsOk) {m : MasterId} {r : Request} {held : Bool} (hr : s.head m = some r)
    (hu : r.binding = .unbound held) : (s.holdHead m).portsOk := by
  rw [State.holdHead_of_head hr]
  refine h.setPort fun hm => hm.rebound (State.inbound_of_head hr) fun i => ?_
  rw [hm.waiting_head (State.inbound_of_head hr), Request.waitsAt_unbound hu, Request.waitsAt_unbound rfl]

theorem State.portsOk.bindHead (h : s.portsOk) {m : MasterId} {r : Request} {held : Bool} (b : Binding) (hr : s.head m = some r)
    (hu : r.binding = .unbound held) : (s.bindHead m b).portsOk := by
  have hw (k : MasterId) (i : TargetId) :
      (s.bindHead m b).waitsOf k i = (decide (i ∈ b.route.waitsAt) && decide (m = k) || s.waitsOf k i) := by
    unfold State.waitsOf
    rw [State.bindHead_target]
    split <;> simp [*]
  refine h.change m (fun k e => by rw [State.bindHead_port hr, if_neg e]) (fun k e i => by simp [hw, e]) fun hm => ?_
  rw [State.bindHead_port hr, if_pos rfl]
  refine hm.rebound (State.inbound_of_head hr) fun i => ?_
  rw [hw, hm.waiting_head (State.inbound_of_head hr), Request.waitsAt_unbound hu, Request.waitsAt_bound rfl]
  simp

theorem State.waitsOf_stopWaiting (s : State) (i : TargetId) (m k : MasterId) (j : TargetId) :
    (s.stopWaiting i m).waitsOf k j = (!(decide (i = j) && decide (m = k)) && s.waitsOf k j) := by
  unfold State.waitsOf State.stopWaiting
  rw [State.setTarget_target]
  split <;> simp [*]

/-- Where a two-leg mirror write waits on with one leg skipped: at its other target. -/
theorem waitsAt_skip {t1 t2 i : TargetId} (a1 a2 : Word) (hd : t1 ≠ t2) (hi : t1 = i ∨ t2 = i) (j : TargetId) :
    decide (j ∈ (BoundRoute.mirror t1 a1 t2 a2 (some (legAt t1 i))).waitsAt) =
      (!decide (i = j) && decide (j ∈ (BoundRoute.mirror t1 a1 t2 a2 none).waitsAt)) := by
  unfold BoundRoute.waitsAt legAt
  rcases hi with rfl | rfl
  · by_cases e : t1 = j
    · subst e; simp [sentTarget, hd]
    · simp [sentTarget, e, Ne.symm e]
  · by_cases e : t2 = j
    · subst e; simp [sentTarget, hd, Ne.symm hd]
    · simp [sentTarget, hd, e, Ne.symm e]

theorem State.portsOk.reexamineHead (h : s.portsOk) (hl : ∀ m, ∀ r ∈ (s.port m).inbound, r.legsDiffer = true) (i : TargetId)
    (m : MasterId) : (s.reexamineHead i m).portsOk := by
  rcases reexamineHead_cases s i m with ⟨hn, he⟩ | ⟨r, b, code, hr, hb, hroute, he⟩ |
    ⟨r, b, t1, a1, t2, a2, hr, hb, hroute, hi, he⟩
  · rw [he]
    refine h.change m (fun k e => by simp) (fun k e j => by simp [State.waitsOf_stopWaiting, e]) fun hm => ?_
    rw [State.headWaitsAt_eq] at hn
    rw [show (s.stopWaiting i m).port m = s.port m by simp]
    refine hm.lessWaiting fun j => ?_
    rw [State.waitsOf_stopWaiting]
    by_cases e : i = j
    · subst e; exact .inr ⟨by simp, hn⟩
    · exact .inl (by simp [e])
  · rw [he]
    have left : ((s.stopWaiting i m).leaveHead m).portsOk := by
      refine h.leaves hr (fun k => by simp [State.leaveHead_port]) fun k j => ?_
      show (s.stopWaiting i m).waitsOf k j = _
      rw [State.waitsOf_stopWaiting]
      by_cases e : m = k
      · subst e
        rw [(h.legalAt m).waiting_head (State.inbound_of_head hr), Request.waitsAt_bound hb, hroute]
        by_cases ej : i = j <;> simp [ej, eq_comm]
      · simp [e]
    exact (left.calm (.complete _ m _)).bindingEnds _
  · rw [he, State.rebindHead_of_head (by simpa using hr)]
    have hd : t1 ≠ t2 := by
      have := hl m r (by rw [State.inbound_of_head hr]; simp)
      simpa [Request.legsDiffer, hb, hroute, BoundRoute.legsDiffer] using this
    refine h.change m (fun k e => by simp [e]) (fun k e j => ?_) fun hm => ?_
    · show (s.stopWaiting i m).waitsOf k j = _
      simp [State.waitsOf_stopWaiting, e]
    · simp only [State.setPort_port, if_true, State.stopWaiting_frame]
      refine hm.rebound (State.inbound_of_head hr) fun j => ?_
      show (s.stopWaiting i m).waitsOf m j = _
      rw [State.waitsOf_stopWaiting, hm.waiting_head (State.inbound_of_head hr), Request.waitsAt_bound hb,
        Request.waitsAt_bound rfl, hroute, waitsAt_skip a1 a2 hd hi]
      simp

theorem State.portsOk.endTransaction (h : s.portsOk) (i : TargetId) (x : Xid) (o : EndOutcome) (data : List Byte) :
    (s.endTransaction i x o data).portsOk := by
  refine h.of_frame (State.endTransaction_port s i x o data) fun j => ?_
  obtain ⟨ms, hj⟩ := State.endTransaction_target s i x o data j
  rw [hj]
  dsimp only
  split
  · next e => rw [← e.1]; rfl
  · rfl

theorem State.portsOk.xidGrant (h : s.portsOk) (i : TargetId) : (s.xidGrant i).portsOk := by
  rcases xidGrant_cases s i with he | ⟨m, r, b, x, xs, o, held, hr, hb, hroute, -, -, hc⟩
  · rw [he]; exact h
  · refine State.portsOk.calm
      (s := (s.leaveHead m).setTarget i ((s.target i).granted x o m held)) (h.leaves hr (fun _ => rfl) fun k j => ?_) hc
    have hm := (h.legalAt m).waiting_head (State.inbound_of_head hr) j
    rw [Request.waitsAt_bound hb, hroute] at hm
    unfold State.waitsOf at hm ⊢
    rw [State.setTarget_target]
    by_cases e : i = j
    · subst e; simp [TargetPort.granted]
    · by_cases ek : m = k
      · subst ek; simp [e, hm, Ne.symm e]
      · simp [e, ek]

theorem State.portsOk.mirrorXidGrant (h : s.portsOk) (hl : ∀ m, ∀ r ∈ (s.port m).inbound, r.legsDiffer = true) (i : TargetId) :
    (s.mirrorXidGrant i).portsOk := by
  rcases mirrorXidGrant_cases s i hl with he | ⟨m, r, b, t1, t2, x1, xs1, x2, xs2, o1, o2, held, hr, hb, hroute, hd, -, -, -, -, -, hc⟩
  · rw [he]; exact h
  · refine State.portsOk.calm
      (s := ((s.leaveHead m).setTarget t1 ((s.target t1).granted x1 o1 m held)).setTarget t2
        ((s.target t2).granted x2 o2 m [])) (h.leaves hr (fun _ => rfl) fun k j => ?_) hc
    have hm := (h.legalAt m).waiting_head (State.inbound_of_head hr) j
    rw [Request.waitsAt_bound hb, hroute] at hm
    unfold State.waitsOf at hm ⊢
    simp only [State.setTarget_target]
    by_cases e2 : t2 = j
    · subst e2; simp [TargetPort.granted]
    · by_cases e1 : t1 = j
      · subst e1; simp [TargetPort.granted, Ne.symm hd]
      · by_cases ek : m = k
        · subst ek; simp [e1, e2, hm, Ne.symm e1, Ne.symm e2]
        · simp [e1, e2, ek]

/-- A cleanup starts at a port whose link is up only when trained, the rest of the part legal. -/
theorem State.portsOk.takeOwnPart {m : MasterId} (h : s.portsOk) (hp : ∀ k, m ≠ k → t.port k = s.port k)
    (hg : t.targets = s.targets) (hl : (t.port m).link = .up → (t.port m).trained = true) : (t.takeOwnPart m).portsOk := by
  have hg : (t.takeOwnPart m).targets = s.targets := by
    simp [State.takeOwnPart, State.foldl_countFalls_frame, hg]
  refine h.change m (fun k e => by rw [State.takeOwnPart_port, if_neg e, hp k e])
    (fun k _ i => by simp only [State.waitsOf, State.target, hg]) fun _ => ?_
  rw [State.takeOwnPart_port, if_pos rfl]
  exact MasterPort.legal_handedOver hl _

theorem State.portsOk.cleanTarget (h : s.portsOk) {m : MasterId} {i : TargetId}
    (hl : CleanupBlock.target i ∈ (s.port m).cleanup.left) : (s.cleanTarget m i).portsOk := by
  have hw (k : MasterId) (j : TargetId) :
      (s.cleanTarget m i).waitsOf k j = (!(decide (i = j) && decide (m = k)) && s.waitsOf k j) := by
    unfold State.waitsOf State.cleanTarget
    rw [State.setTarget_target]
    split <;> simp [*]
  refine h.change m (fun k e => rfl) (fun k e j => by simp [hw, e]) fun hm => ?_
  refine MasterPort.legal.lessWaiting (p := s.port m) hm fun j => ?_
  have hi := hm.inbound_nil fun e => MasterPort.not_clear_of_mem_left hl e.2
  by_cases e : i = j
  · exact .inr ⟨by rw [hw]; simp [e], by simp [MasterPort.headWaits, hi]⟩
  · exact .inl (by simp [hw, e])

theorem reset_portsOk (pin : ResetPin) (queue : List Instr) :
    State.portsOk { State.reset with rstN := pin, pending := queue } := by
  refine (State.portsOk_iff _).mpr fun m => ?_
  have hp : State.port { State.reset with rstN := pin, pending := queue } m = MasterPort.resetPort := by
    simp [State.port, State.reset]
  rw [hp]
  refine (MasterPort.legal_nil rfl _).mpr ⟨nofun, nofun, List.nodup_nil, fun e => absurd rfl e, fun i e => ?_⟩
  simp [State.waitsOf, State.target, State.reset, TargetPort.resetPort] at e

theorem State.portsOk.move (h : s.portsOk) (hx : s.xidsOk) (hm : s.Move t) : t.portsOk := by
  cases hm with
  | calm hc => exact h.calm hc
  | reset pin queue => exact reset_portsOk pin queue
  | headLeaves hr hu => exact h.leaveHead hr hu
  | headBound hr hu hd => exact h.bindHead _ hr hu
  | headHeld hr hu => exact h.holdHead hr hu
  | reexamined i m => exact h.reexamineHead hx.2.2 i m
  | ended i x o data => exact h.endTransaction i x o data
  | granted i => exact h.xidGrant i
  | mirrorGranted i => exact h.mirrorXidGrant hx.2.2 i
  | enqueued f ht =>
    unfold State.enqueue
    exact h.setPort fun hm => hm.enqueued ht f
  | cleanupStarts m => exact h.takeOwnPart (fun _ _ => rfl) rfl (h.legalAt m).1.2.2.2.2.1
  | linkDrops m => exact h.takeOwnPart (fun k e => by simp [State.lowerPort, e]) rfl fun e => by simp [State.lowerPort] at e
  | lowered hl =>
    unfold State.lowerPort
    exact h.setPort fun hm => hm.lowered hl
  | trained m => exact h.setPort fun hm => hm.trained
  | targetCleaned hl => exact h.cleanTarget hl
  | partTaken hl hw =>
    unfold State.partTaken
    exact h.setPort fun hm => hm.partTaken hl hw

/-- A step that starts with every xid accounted for keeps the ports legal. -/
theorem step_portsOk (hx : s.xidsOk) (h : s.portsOk) (hs : step s = .next t) : t.portsOk :=
  (step_keeps (P := fun s => s.xidsOk ∧ s.portsOk) (fun _ _ hp hm => ⟨hp.1.move hm, hp.2.move hp.1 hm⟩) ⟨hx, h⟩ hs).2

end Sys2Proof.Machine
end

section
/-! Slots: every step keeps the command slots legal (R129, R132, R133); with the ports, O58. -/

namespace Sys2Proof.Machine

-- One proof after the other, as in the tests: together they would take too many threads, and their stacks too much memory.
set_option Elab.async false

variable {s t : State}

/-! ### The engine -/

/-- The slots follow the engine (R129, R132, R133); `State.engineOk` says it of the part's engine. -/
def Engine.legal (e : Engine) : Prop :=
  (∀ m, (e.slots.get m).state = .executing ↔ e.runsFor m = true) ∧
  (∀ m, (e.slots.get m).state = .done ↔ (e.slots.get m).result ≠ none) ∧
  (∀ m, (e.slots.get m).state ≠ .done → (e.slots.get m).words = Table.fill 8 0) ∧
  (∀ u ∈ e.underWay, u.command.engineOwned = false)

theorem State.engineOk_iff (s : State) : s.engineOk ↔ s.engine.legal := Iff.rfl

/-- A slot by itself: a result exactly in DONE, and result words only there (R129). -/
def Slot.legal (sl : Slot) : Prop := (sl.state = .done ↔ sl.result ≠ none) ∧ (sl.state ≠ .done → sl.words = Table.fill 8 0)

theorem Engine.legal_iff (e : Engine) :
    e.legal ↔ (∀ m, (e.slots.get m).legal) ∧ (∀ m, (e.slots.get m).state = .executing ↔ e.runsFor m = true) ∧
      ∀ u ∈ e.underWay, u.command.engineOwned = false := by
  unfold Engine.legal Slot.legal
  rw [forall_and]
  tauto

/-- One slot changes, and the command under way with it, or neither; for the other masters the engine runs as before. -/
theorem Engine.legal.change {e e' : Engine} (h : e.legal) (m : MasterId) {sl : Slot} (hs : e'.slots = e.slots.put m sl)
    (hl : sl.legal) (hm : sl.state = .executing ↔ e'.runsFor m = true) (hk : ∀ k, m ≠ k → e'.runsFor k = e.runsFor k)
    (hu : ∀ u ∈ e'.underWay, u.command.engineOwned = false) : e'.legal := by
  obtain ⟨h1, h2, -⟩ := e.legal_iff.mp h
  refine e'.legal_iff.mpr ⟨fun k => ?_, fun k => ?_, hu⟩
  · rw [hs, Table.get_put]
    split
    · exact hl
    · exact h1 k
  · rw [hs, Table.get_put]
    split
    · next e => exact e ▸ hm
    · next e => rw [hk k e]; exact h2 k

/-- A change of a slot that is not EXECUTING, before and after. -/
theorem Engine.legal.setSlot {e : Engine} (h : e.legal) {m : MasterId} {sl : Slot} (hl : sl.legal)
    (hn : (e.slots.get m).state ≠ .executing) (hn' : sl.state ≠ .executing) : ({ e with slots := e.slots.put m sl } : Engine).legal := by
  obtain ⟨-, h2, h3⟩ := e.legal_iff.mp h
  refine h.change m rfl hl ⟨fun e => absurd e hn', fun hr => absurd ((h2 m).mpr hr) hn⟩ (fun _ _ => rfl) h3

theorem Slot.legal_finish (sl : Slot) (r : Reply) : (sl.finish r).legal := by simp [Slot.legal, Slot.finish]

theorem Slot.legal_idle : Slot.idleSlot.legal := by simp [Slot.legal, Slot.idleSlot]

theorem Slot.accepts_ne {sl : Slot} (h : sl.accepts = true) : sl.state ≠ .executing := by
  intro e
  simp [Slot.accepts, e] at h

/-- The engine runs for the master of the command under way, unless its result is to be discarded. -/
theorem Engine.runsFor_some {e : Engine} {u : UnderWay} (h : e.underWay = some u) (m : MasterId) :
    e.runsFor m = (decide (u.master = m) && !u.discard) := by
  simp [Engine.runsFor, h]

theorem Engine.runsFor_none {e : Engine} (h : e.underWay = none) (m : MasterId) : e.runsFor m = false := by
  simp [Engine.runsFor, h]

/-! ### What the operations do to the engine -/

theorem Engine.legal.writeCommandWord (h : s.engine.legal) (m : MasterId) (v : Word) (tag : Tag) :
    (s.writeCommandWord m v tag).engine.legal := by
  unfold State.writeCommandWord
  split
  · split
    · next ha => exact h.setSlot (by simp [Slot.legal, Slot.go]) (Slot.accepts_ne ha) (by simp [Slot.go])
    · simpa using h
  · exact h

theorem Engine.legal.writeArgument (h : s.engine.legal) (m : MasterId) (i : Fin 10) (v : Word) :
    (s.writeArgument m i v).engine.legal := by
  unfold State.writeArgument
  split
  · next ha => exact h.setSlot ((Engine.legal_iff _).mp h |>.1 m) (Slot.accepts_ne ha) (Slot.accepts_ne ha)
  · exact h

theorem Engine.legal.pageWrite (h : s.engine.legal) (m : MasterId) (w : PageWord) (v : Word) (tag : Tag) :
    (s.pageWrite m w v tag).engine.legal := by
  cases w with
  | command => exact h.writeCommandWord m v tag
  | argument i => exact h.writeArgument m i v
  | _ => exact h

/-- A decision changes the engine as a control page write does, or not at all. -/
theorem Engine.legal.decideHead (h : s.engine.legal) (m : MasterId) : (s.decideHead m).engine.legal := by
  unfold State.decideHead
  split
  · next r _ =>
    by_cases hd : s.decision m r = .controlPage
    · rw [hd]
      unfold State.carryOut State.pageAccess
      dsimp only
      split
      · simpa using h
      · simpa using h.pageWrite m r.pageWord _ r.tag
    · rw [State.carryOut_engine s m r hd]; exact h
  · exact h

theorem Engine.legal.finishCommand {u : UnderWay} (h : s.engine.legal) (hu : s.engine.underWay = some u) (r : Reply) :
    (s.finishCommand u r).engine.legal := by
  obtain ⟨h1, h2, -⟩ := s.engine.legal_iff.mp h
  unfold State.finishCommand
  dsimp only
  split
  · next hd =>
    refine (Engine.legal_iff _).mpr ⟨h1, fun m => ?_, by simp⟩
    have := h2 m
    rw [Engine.runsFor_some hu, hd] at this
    rw [Engine.runsFor_none rfl]
    simpa using this
  · refine h.change u.master rfl (Slot.legal_finish _ r) ?_ (fun k e => ?_) fun _ e => by simp [State.setSlot] at e
    · rw [Engine.runsFor_none rfl]; simp [Slot.finish]
    · rw [Engine.runsFor_none rfl, Engine.runsFor_some hu]; simp [e]

theorem Engine.legal.takeDelivered {c : Command} {effect : State → MasterId → Args → State × Reply}
    (he : ∀ m a, (effect s m a).1.engine = s.engine) (h : s.engine.legal) : (s.takeDelivered c effect).engine.legal := by
  unfold State.takeDelivered
  split
  · next u hu =>
    split
    · exact Engine.legal.finishCommand ((he _ _).symm ▸ h) ((he _ _).symm ▸ hu) _
    · exact h
  · exact h

/-- The setup right and the last served master are no part of what the slots follow. -/
theorem Engine.legal.congr {e e' : Engine} (h : e.legal) (hs : e'.slots = e.slots) (hu : e'.underWay = e.underWay) : e'.legal := by
  unfold Engine.legal Engine.runsFor at h ⊢
  rw [hs, hu]
  exact h

/-- A command that the engine carries out itself changes no slot and puts nothing under way. -/
theorem State.engineEffect_engine (s : State) (c : Command) (m : MasterId) (a : Args) :
    (s.engineEffect c m a).1.engine.slots = s.engine.slots ∧ (s.engineEffect c m a).1.engine.underWay = s.engine.underWay := by
  unfold State.engineEffect State.takeSetup State.handSetup State.querySetup
  (repeat' split) <;> simp [State.setSetup]

theorem nextTake_pending {m : MasterId} (h : s.nextTake = some m) : s.engine.underWay = none ∧ (s.slot m).state = .pending := by
  unfold State.nextTake at h
  split at h
  · next hu =>
    have ht := List.find?_some h
    simp only [State.takeable, Bool.and_eq_true, decide_eq_true_eq] at ht
    exact ⟨by simpa using hu, ht.1⟩
  · cases h

theorem Engine.legal.endTake (h : s.engine.legal) {m : MasterId} (hp : (s.slot m).state = .pending) (r : Reply) :
    (s.endTake m r).engine.legal :=
  h.setSlot (Slot.legal_finish _ r) (by simp [show (s.engine.slots.get m).state = .pending from hp]) (by simp [Slot.finish])

theorem Engine.legal.deliver (h : s.engine.legal) {m : MasterId} {c : Command} (hn : s.engine.underWay = none)
    (hp : (s.slot m).state = .pending) (hc : c.engineOwned = false) : (s.deliver m c).engine.legal := by
  have hl : (s.slot m).legal := (Engine.legal_iff _).mp h |>.1 m
  unfold Slot.legal at hl
  rw [hp] at hl
  refine h.change m rfl ⟨?_, fun _ => hl.2 nofun⟩ ?_ (fun k e => ?_) fun u hu => ?_
  · simpa using hl.1
  · rw [Engine.runsFor_some rfl]; simp
  · rw [Engine.runsFor_some rfl, Engine.runsFor_none hn]; simp [e]
  · cases hu; exact hc

theorem Engine.legal.takeSlot (h : s.engine.legal) {m : MasterId} (hn : s.engine.underWay = none)
    (hp : (s.slot m).state = .pending) : (s.takeSlot m).engine.legal := by
  have served : (s.setEngine { s.engine with lastServed := m }).engine.legal := h.congr rfl rfl
  unfold State.takeSlot
  dsimp only
  split
  · exact served.endTake hp _
  · next c _ =>
    split
    · exact served.endTake hp _
    · split
      · obtain ⟨hs, hu⟩ := State.engineEffect_engine (s.setEngine { s.engine with lastServed := m }) c m (s.slot m).args
        exact Engine.legal.endTake (served.congr hs hu) (by rw [State.slot, hs]; exact hp) _
      · next hc => exact served.deliver hn hp (by simpa using hc)

theorem Engine.legal.cleanEngine (h : s.engine.legal) (m : MasterId) : (s.cleanEngine m).engine.legal := by
  obtain ⟨-, -, h3⟩ := s.engine.legal_iff.mp h
  refine h.change m rfl Slot.legal_idle ?_ (fun k e => ?_) fun u hu => ?_
  · cases hu : s.engine.underWay with
    | none => simp [State.cleanEngine, Engine.runsFor, hu, Slot.idleSlot]
    | some u => by_cases e : u.master = m <;> simp [State.cleanEngine, Engine.runsFor, hu, Slot.idleSlot, UnderWay.cleanedFor, e]
  · cases hu : s.engine.underWay with
    | none => simp [State.cleanEngine, Engine.runsFor, hu]
    | some u =>
      by_cases e' : u.master = m
      · simp [State.cleanEngine, Engine.runsFor, hu, UnderWay.cleanedFor, e', e]
      · simp [State.cleanEngine, Engine.runsFor, hu, UnderWay.cleanedFor, e']
  · obtain ⟨u', hu', rfl⟩ := Option.map_eq_some_iff.mp hu
    have := h3 u' hu'
    unfold UnderWay.cleanedFor
    split <;> exact this

/-! ### The effects of delivered commands -/

theorem tableTaken_engine {p : State × Reply} (h : p.1.engine = s.engine) : (tableTaken p).1.engine = s.engine := by
  simpa [tableTaken] using h

theorem defineWindowEffect_engine (s : State) (m : MasterId) (a : Args) : (defineWindowEffect s m a).1.engine = s.engine := by
  unfold defineWindowEffect
  (repeat' split) <;> rfl

theorem setRouteEffect_engine (s : State) (m : MasterId) (a : Args) : (setRouteEffect s m a).1.engine = s.engine := by
  unfold setRouteEffect
  (repeat' split) <;> rfl

theorem setAccessEffect_engine (s : State) (m : MasterId) (a : Args) : (setAccessEffect s m a).1.engine = s.engine := by
  unfold setAccessEffect
  (repeat' split) <;> rfl

theorem enableWindowEffect_engine (s : State) (m : MasterId) (a : Args) : (enableWindowEffect s m a).1.engine = s.engine := by
  unfold enableWindowEffect
  (repeat' split) <;> rfl

theorem disableWindowEffect_engine (s : State) (m : MasterId) (a : Args) : (disableWindowEffect s m a).1.engine = s.engine := by
  unfold disableWindowEffect
  (repeat' split) <;> rfl

theorem leaveTable_engine (s : State) (w : WindowId) (m : MasterId) : (s.leaveTable w m).1.engine = s.engine := by
  unfold State.leaveTable
  split <;> simp

theorem retireWindowEffect_engine (s : State) (m : MasterId) (a : Args) : (retireWindowEffect s m a).1.engine = s.engine := by
  unfold retireWindowEffect
  (repeat' split) <;> simp [leaveTable_engine, forceOut_frame, refusedWith]

theorem setDefaultEffect_engine (s : State) (m : MasterId) (a : Args) : (setDefaultEffect s m a).1.engine = s.engine := by
  unfold setDefaultEffect
  split <;> rfl

theorem queryWindowEffect_engine (s : State) (m : MasterId) (a : Args) : (queryWindowEffect s m a).1.engine = s.engine := by
  unfold queryWindowEffect
  split <;> rfl

theorem claimEffect_engine (s : State) (m : MasterId) (a : Args) : (claimEffect s m a).1.engine = s.engine := by
  unfold claimEffect State.joinQueue
  (repeat' split) <;> rfl

theorem renewEffect_engine (s : State) (m : MasterId) (a : Args) : (renewEffect s m a).1.engine = s.engine := by
  unfold renewEffect
  (repeat' split) <;> rfl

theorem releaseEffect_engine (s : State) (m : MasterId) (a : Args) : (releaseEffect s m a).1.engine = s.engine := by
  unfold releaseEffect
  (repeat' split) <;> simp [refusedWith]

theorem withdrawEffect_engine (s : State) (m : MasterId) (a : Args) : (withdrawEffect s m a).1.engine = s.engine := by
  unfold withdrawEffect
  (repeat' split) <;> simp [refusedWith]

theorem revokeEffect_engine (s : State) (m : MasterId) (a : Args) : (revokeEffect s m a).1.engine = s.engine := by
  unfold revokeEffect
  (repeat' split) <;> simp [refusedWith]

theorem setTickEffect_engine (s : State) (m : MasterId) (a : Args) : (setTickEffect s m a).1.engine = s.engine := by
  unfold setTickEffect
  split <;> rfl

theorem setTargetEffect_engine (s : State) (m : MasterId) (a : Args) : (setTargetEffect s m a).1.engine = s.engine := by
  unfold setTargetEffect
  (repeat' split) <;> rfl

theorem queryTargetEffect_engine (s : State) (m : MasterId) (a : Args) : (queryTargetEffect s m a).1.engine = s.engine := by
  unfold queryTargetEffect
  (repeat' split) <;> rfl

theorem fenceEffect_engine (s : State) (m : MasterId) (a : Args) : (fenceEffect s m a).1.engine = s.engine := by
  unfold fenceEffect
  (repeat' split) <;> simp [refuseTarget, State.fenceReply]

theorem unfenceEffect_engine (s : State) (m : MasterId) (a : Args) : (unfenceEffect s m a).1.engine = s.engine := by
  unfold unfenceEffect
  (repeat' split) <;> simp [refuseTarget, State.fenceReply]

/-! ### The steps -/

theorem tickPart_engine (s : State) (part : TickPart) : (s.tickPart part).engine = s.engine := by
  unfold State.tickPart
  cases part <;> simp [State.emitTick]

theorem takePart_engine (m : MasterId) (b : CleanupBlock) {part : State → State} (h : (part s).engine = s.engine) :
    (s.takePart m b part).engine = s.engine := by
  unfold State.takePart
  split <;> simp [h]

theorem reset_engineOk (pin : ResetPin) (queue : List Instr) :
    State.engineOk { State.reset with rstN := pin, pending := queue } := by
  refine (Engine.legal_iff _).mpr ⟨fun m => ?_, fun m => ?_, nofun⟩
  · simpa [State.reset] using Slot.legal_idle
  · simp [State.reset, Engine.runsFor, Slot.idleSlot]

theorem exec_engine_legal {c : Instr} (h : s.engine.legal) (he : exec c s = .next t) : t.engine.legal := by
  have happens {effect : State → State} (hl : (effect s).engine.legal) (he : happening s effect = .next t) : t.engine.legal := by
    unfold happening at he
    cases he
    split
    · exact hl
    · exact h
  have same {effect : State → State} (hl : (effect s).engine = s.engine) : happening s effect = .next t → t.engine.legal :=
    happens (hl.symm ▸ h)
  have onTable {k : Command} {effect : State → MasterId → Args → State × Reply} (hl : ∀ m a, (effect s m a).1.engine = s.engine) :
      happening s (fun s => s.takeDelivered k fun s m a => tableTaken (effect s m a)) = .next t → t.engine.legal :=
    happens (h.takeDelivered fun m a => tableTaken_engine (hl m a))
  unfold exec at he
  cases c with
  | deviceReset =>
    cases he
    exact reset_engineOk .asserted s.pending
  | rstNRelease =>
    unfold execRstNRelease at he
    cases he
    split <;> exact h
  | tick part => exact same (tickPart_engine s part) he
  | expired w => exact same (by split <;> simp) he
  | handoff w => exact same (by simp) he
  | claimLapsed w m => exact same (by split <;> simp) he
  | timeout i x => exact same (by split <;> simp) he
  | requestFrame m f => exact same (by split <;> simp) he
  | portReset m => exact same (by split <;> simp) he
  | linkDrop m => exact same (by split <;> simp) he
  | masterLinkTrains m => exact same rfl he
  | cleanupEnginePart m =>
    refine happens ?_ he
    unfold State.takePart
    split
    · simpa using h.cleanEngine m
    · exact h
  | cleanupNoticePart m =>
    refine same ?_ he
    exact takePart_engine m _ (by simp)
  | cleanupLeasePart m =>
    refine same ?_ he
    exact takePart_engine m _ (by simp)
  | cleanupWindowPart m =>
    refine same ?_ he
    exact takePart_engine m _ (by simp)
  | cleanupTargetPart m i =>
    refine same ?_ he
    exact takePart_engine m _ (by simp)
  | steeringDecision m => exact happens (h.decideHead m) he
  | eventPortRead m => exact happens (by split <;> [exact h.decideHead m; exact h]) he
  | noticeMaskWrite m => exact happens (by split <;> [exact h.decideHead m; exact h]) he
  | controlPageWrite m => exact happens (by split <;> [exact h.decideHead m; exact h]) he
  | commandTake =>
    refine happens ?_ he
    split
    · next m hm =>
      obtain ⟨hn, hp⟩ := nextTake_pending hm
      exact h.takeSlot hn hp
    · exact h
  | defineWindow => exact onTable (defineWindowEffect_engine s) he
  | setRoute => exact onTable (setRouteEffect_engine s) he
  | setAccess => exact onTable (setAccessEffect_engine s) he
  | enableWindow => exact onTable (enableWindowEffect_engine s) he
  | disableWindow => exact onTable (disableWindowEffect_engine s) he
  | retireWindow => exact onTable (retireWindowEffect_engine s) he
  | windowRetired w => exact same (by simp) he
  | setDefault => exact onTable (setDefaultEffect_engine s) he
  | queryWindow => exact onTable (queryWindowEffect_engine s) he
  | claim => exact happens (h.takeDelivered (claimEffect_engine s)) he
  | renew => exact happens (h.takeDelivered (renewEffect_engine s)) he
  | release => exact happens (h.takeDelivered (releaseEffect_engine s)) he
  | withdraw => exact happens (h.takeDelivered (withdrawEffect_engine s)) he
  | revoke => exact happens (h.takeDelivered (revokeEffect_engine s)) he
  | setTick => exact happens (h.takeDelivered (setTickEffect_engine s)) he
  | setTarget => exact happens (h.takeDelivered (setTargetEffect_engine s)) he
  | queryTarget => exact happens (h.takeDelivered (queryTargetEffect_engine s)) he
  | fenceTarget => exact happens (h.takeDelivered (fenceEffect_engine s)) he
  | unfenceTarget => exact happens (h.takeDelivered (unfenceEffect_engine s)) he
  | fenceDone i => exact same (by simp) he
  | xidGrant i => exact same (by simp) he
  | mirrorXidGrant i => exact same (by simp) he
  | targetCompletion i f => exact same (by split <;> simp) he
  | targetLinkDown i => exact same (by split <;> simp) he
  | targetLinkTrains i => exact same (by simp) he

theorem step_engine_legal (h : s.engine.legal) (hs : step s = .next t) : t.engine.legal := by
  unfold step at hs
  split at hs
  · next c rest _ => exact exec_engine_legal (s := { s with pending := rest }) h hs
  · unfold idle happening at hs
    cases hs
    split
    · dsimp only
      split
      · rw [tickPart_engine]; exact h
      · unfold State.refclk; split <;> exact h
    · exact h

/-- Settles O58: every move keeps the ports, and every command the slots. -/
theorem everyStepKeepsThePortsAndSlotsLegal : Obligations.EveryStepKeepsThePortsAndSlotsLegal := by
  unfold Obligations.EveryStepKeepsThePortsAndSlotsLegal
  exact fun s t hs => ⟨fun hx hp => step_portsOk hx hp hs, fun he => t.engineOk_iff.mpr (step_engine_legal he hs)⟩

end Sys2Proof.Machine
end

section
/-! Delivered: the happening of a delivered command from its effect, and which argument words the commands
take. -/

namespace Sys2Proof.Machine

-- One proof after the other, as in the tests: together they would take too many threads, and their stacks too much memory.
set_option Elab.async false

variable {s s' : State} {m : MasterId} {a : Args}

/-! ### From the effect to the happening (R17, R133, R134) -/

/-- A command taken at the window table: its effect, the fresh decisions, and its result. -/
theorem exec_onTable {c : Instr} {k : Command} {effect : State → MasterId → Args → State × Reply}
    (hx : exec c s = happening s fun s => s.takeDelivered k fun s m a => tableTaken (effect s m a)) (h : s.delivered m k a)
    {r : Result} {words : List Nat} (he : effect s m a = (s', ⟨r, words⟩)) :
    exec c s = .next (s'.redecideHeads.answered m r words) := by
  rw [hx, takeDelivered_delivered _ h, he]
  rfl

/-- A command taken at another block: its effect and its result. -/
theorem exec_atBlock {c : Instr} {k : Command} {effect : State → MasterId → Args → State × Reply}
    (hx : exec c s = happening s fun s => s.takeDelivered k effect) (h : s.delivered m k a)
    {r : Result} {words : List Nat} (he : effect s m a = (s', ⟨r, words⟩)) : exec c s = .next (s'.answered m r words) := by
  rw [hx, takeDelivered_delivered _ h, he]

/-! ### Argument words (R164) -/

theorem argFin_of_lt {n v : Nat} (h : v < n) : argFin n v = some ⟨v, h⟩ := dif_pos h

theorem argFin_val {n v : Nat} {i : Fin n} (h : argFin n v = some i) : v = i.val := by
  unfold argFin at h
  split at h
  · cases h; rfl
  · cases h

theorem argFlag_eq_none {v : Nat} (h : 1 < v) : argFlag v = none := by
  simp [argFlag, show v ≠ 0 by omega, show v ≠ 1 by omega]

theorem argFlag_of_le {v : Nat} (h : v ≤ 1) : argFlag v = some (decide (v = 1)) := by
  obtain rfl | rfl : v = 0 ∨ v = 1 := by omega
  · rfl
  · rfl

theorem argPolicy_eq_none {v : Nat} (h : 2 < v) : argPolicy v = none := by
  simp [argPolicy, show v ≠ 0 by omega, show v ≠ 1 by omega, show v ≠ 2 by omega]

theorem argSet_eq_none {v : Nat} (h : 15 < v) : argSet v = none := if_neg (by omega)

theorem argDirection_eq_none {v : Nat} (h : 1 < v) : argDirection v = none := by
  simp [argDirection, show v ≠ 0 by omega, show v ≠ 1 by omega]

theorem argAccess_eq_some {n1 n2 n3 n4 n5 : Nat} {policy : LeasePolicy} {contention : Bool} (hp : argPolicy n1 = some policy)
    (h2 : n2 < 16) (h3 : n3 < 16) (hc : argFlag n4 = some contention) (h5 : n5 ≤ 15) :
    argAccess n1 n2 n3 n4 n5 =
      some (policy, Table.ofFn fun i => n2.testBit i.val, Table.ofFn fun i => n3.testBit i.val, contention, n5) := by
  simp [argAccess, hp, argSet_eq_some h2, argSet_eq_some h3, hc, Config.maxRenewals, h5]

/-- One field that is not defined is enough (R6, R164). -/
theorem argAccess_eq_none {n1 n2 n3 n4 n5 : Nat} (h : 2 < n1 ∨ 15 < n2 ∨ 15 < n3 ∨ 1 < n4 ∨ 15 < n5) :
    argAccess n1 n2 n3 n4 n5 = none := by
  unfold argAccess
  rcases h with h | h | h | h | h
  · rw [argPolicy_eq_none h]
  · rw [argSet_eq_none h]; split <;> simp_all
  · rw [argSet_eq_none h]; split <;> simp_all
  · rw [argFlag_eq_none h]; split <;> simp_all
  · split
    · exact if_neg (by simpa [Config.maxRenewals] using h)
    · rfl

theorem geometryOk_eq_true {base : Word} {n : Nat} (h1 : 12 ≤ n) (h2 : n ≤ 31) (h3 : base.toNat % 2 ^ n = 0)
    (h4 : base.toNat ≠ 0x100000000 - 2 ^ n) : geometryOk base n = true := by
  simp [geometryOk, alignedTo, Config.minSizeLog2, Config.maxSizeLog2, Config.addressSpace, Nat.not_lt.mpr h1, Nat.not_lt.mpr h2,
    h3, h4]

theorem geometryOk_eq_false {base : Word} {n : Nat}
    (h : n < 12 ∨ 31 < n ∨ base.toNat % 2 ^ n ≠ 0 ∨ base.toNat = 0x100000000 - 2 ^ n) : geometryOk base n = false := by
  simp only [geometryOk, alignedTo, Config.minSizeLog2, Config.maxSizeLog2, Config.addressSpace]
  by_cases h1 : n < 12
  · simp [h1]
  by_cases h2 : 31 < n
  · simp [h2]
  rcases h with h | h | h | h
  · exact absurd h h1
  · exact absurd h h2
  · simp [h]
  · simp [h]

/-- A route kind or target that SET_ROUTE does not define for reads (R8). -/
theorem argReadRoute_eq_none {k t1 : Nat} (base1 : Word) (h : 4 < k ∨ k = 2 ∨ k = 4 ∨ (3 ≤ k ∧ 3 < t1)) :
    argReadRoute k t1 base1 = none := by
  unfold argReadRoute
  rw [if_neg (by omega), if_neg (by omega)]
  split
  · rw [argFin_eq_none (by omega)]; rfl
  · rfl

/-- A route kind or target that SET_ROUTE does not define for writes (R8). -/
theorem argWriteRoute_eq_none {k t1 t2 : Nat} (base1 base2 : Word)
    (h : 4 < k ∨ k = 1 ∨ (3 ≤ k ∧ 3 < t1) ∨ (k = 4 ∧ 3 < t2)) : argWriteRoute k t1 base1 t2 base2 = none := by
  unfold argWriteRoute
  rw [if_neg (by omega), if_neg (by omega)]
  split
  · rw [argFin_eq_none (by omega)]; rfl
  · split
    · by_cases h1 : 3 < t1
      · rw [argFin_eq_none (by omega)]; rfl
      · rw [argFin_eq_none (n := 4) (v := t2) (by omega), argFin_of_lt (by omega)]; rfl
    · rfl

theorem argDefaultRoute_eq_none {k t : Nat} (h : (k ≠ 0 ∧ k ≠ 3) ∨ (k = 3 ∧ 3 < t)) : argDefaultRoute k t = none := by
  unfold argDefaultRoute
  rw [if_neg (by omega)]
  split
  · rw [argFin_eq_none (by omega)]; rfl
  · rfl

theorem not_takesClaims {st : WindowState} (h : st = .free ∨ st = .retiring) : st.takesClaims = false := by
  rcases h with rfl | rfl <;> rfl

end Sys2Proof.Machine
end

section
/-! TableCommands: the window commands, the settings and the queries, each from its effect (O15 to O18, O22,
O23). -/

namespace Sys2Proof.Machine

-- One proof after the other, as in the tests: together they would take too many threads, and their stacks too much memory.
set_option Elab.async false

variable {s : State} {m : MasterId} {a : Args} {w : WindowId}

/-! ### DEFINE_WINDOW (R7) -/

/-- Settles O15: the effect by the record's state and the geometry, taken at the window table. -/
theorem defineWindowFillsAFreeRecord : Obligations.DefineWindowFillsAFreeRecord := by
  unfold Obligations.DefineWindowFillsAFreeRecord
  intro s m a w policy contention h hw h3 hp hr hwr hc h8
  have hi := argFin_eq_some w hw
  have ha := argAccess_eq_some hp hr hwr hc h8
  refine ⟨fun hs => exec_onTable rfl h ?_, fun hs hg => exec_onTable rfl h ?_, fun hs h1 h2 hm hn => exec_onTable rfl h ?_⟩
  · simp [defineWindowEffect, hi, ha, Nat.not_lt.mpr h3, hs, refusedWith]
  · simp [defineWindowEffect, hi, ha, Nat.not_lt.mpr h3, hs, refusedWith, geometryOk_eq_false hg]
  · simp [defineWindowEffect, hi, ha, Nat.not_lt.mpr h3, hs, State.defineAs, geometryOk_eq_true h1 h2 hm hn]

/-! ### SET_ROUTE (R8) -/

/-- SET_ROUTE's effect for a read route, once its arguments name one. -/
theorem setRouteEffect_read {r : ReadRoute} (hw : argNat a 0 = w.val) (hd : argNat a 1 = 0)
    (hr : argReadRoute (argNat a 2) (argNat a 3) (a.get 4) = some r) :
    setRouteEffect s m a =
      if (s.window w).state ≠ .defined then refusedWith s .badState
      else if !r.geometryOk (s.window w).sizeLog2 then refusedWith s .badGeometry
      else s.defineAs w { s.window w with readRoute := r } := by
  simp [setRouteEffect, argFin_eq_some w hw, hd, argDirection, hr]

/-- SET_ROUTE's effect for a write route, once its arguments name one. -/
theorem setRouteEffect_write {r : WriteRoute} (hw : argNat a 0 = w.val) (hd : argNat a 1 = 1)
    (hr : argWriteRoute (argNat a 2) (argNat a 3) (a.get 4) (argNat a 5) (a.get 6) = some r) :
    setRouteEffect s m a =
      if (s.window w).state ≠ .defined then refusedWith s .badState
      else if !r.geometryOk (s.window w).sizeLog2 then refusedWith s .badGeometry
      else s.defineAs w { s.window w with writeRoute := r } := by
  simp [setRouteEffect, argFin_eq_some w hw, hd, argDirection, hr]

/-- Settles O16: the effect by the direction, the record's state and the route's geometry. -/
theorem setRouteReplacesOneRoute : Obligations.SetRouteReplacesOneRoute := by
  unfold Obligations.SetRouteReplacesOneRoute
  intro s m a w h hw
  constructor
  · intro r hd hr
    have he := setRouteEffect_read (s := s) (m := m) hw hd hr
    exact ⟨fun hs => exec_onTable rfl h (by rw [he, if_pos hs]; rfl),
      fun hs hg => exec_onTable rfl h (by rw [he]; simp [hs, hg, refusedWith]),
      fun hs hg => exec_onTable rfl h (by rw [he]; simp [hs, hg, State.defineAs])⟩
  · intro r hd hr
    have he := setRouteEffect_write (s := s) (m := m) hw hd hr
    exact ⟨fun hs => exec_onTable rfl h (by rw [he, if_pos hs]; rfl),
      fun hs hg => exec_onTable rfl h (by rw [he]; simp [hs, hg, refusedWith]),
      fun hs hg => exec_onTable rfl h (by rw [he]; simp [hs, hg, State.defineAs])⟩

/-! ### SET_ACCESS, ENABLE_WINDOW and DISABLE_WINDOW (R9 to R11) -/

/-- Settles O17: each effect by the record's state, and SET_ACCESS's by the lease. -/
theorem accessEnableAndDisable : Obligations.AccessEnableAndDisable := by
  unfold Obligations.AccessEnableAndDisable
  intro s m a w hw
  have hi := argFin_eq_some w hw
  refine ⟨fun h policy contention h1 h2 hp hc h5 => ?_, fun h => ?_, fun h => ?_⟩
  · have ha := argAccess_eq_some hp h1 h2 hc h5
    refine ⟨fun hs => exec_onTable rfl h ?_, fun hs hn hl => exec_onTable rfl h ?_, fun hs hl => exec_onTable rfl h ?_⟩
    · simp [setAccessEffect, hi, ha, hs, refusedWith]
    · simp [setAccessEffect, hi, ha, hs, hn, Option.isSome_iff_ne_none.mpr hl, refusedWith]
    · have hn : ¬(policy = .none ∧ (s.lease w).isSome = true) := by
        rintro ⟨hp, hs⟩
        exact hl.elim (· hp) (fun e => by simp [e] at hs)
      simp only [setAccessEffect, hi, ha, hs, if_neg hn, State.defineAs, ne_eq, not_true_eq_false, if_false]
  · exact ⟨fun hs => exec_onTable rfl h (by simp [enableWindowEffect, hi, hs, refusedWith]),
      fun hs => exec_onTable rfl h (by simp [enableWindowEffect, hi, hs, State.defineAs])⟩
  · exact ⟨fun hs => exec_onTable rfl h (by simp [disableWindowEffect, hi, hs, refusedWith]),
      fun hs => exec_onTable rfl h (by simp [disableWindowEffect, hi, hs, State.defineAs])⟩

/-! ### RETIRE_WINDOW (R12, R13, R73) -/

/-- What a forced retirement does before the change of state, by the lease of the window. -/
theorem forceOut_cases (s : State) (w : WindowId) (m : MasterId) :
    ∃ revoked : State, (s.lease w = none → revoked = s) ∧
      (∀ l, s.lease w = some l → revoked = (s.setLease w none).post l.holder (.revoked w m)) ∧
      s.forceOut w m = (s.queueOf w).foldl (fun s c => s.post c.claimant (.claimLapsed w .retired))
        (revoked.setClaims (s.claims.filter fun c => decide (c.window ≠ w))) := by
  unfold State.forceOut State.holder
  cases s.lease w with
  | none => exact ⟨s, fun _ => rfl, nofun, rfl⟩
  | some l => exact ⟨_, nofun, fun l' e => by cases e; rfl, rfl⟩

/-- RETIRE_WINDOW's effect where it may retire the window: the change of state, after what force clears. -/
theorem retireWindowEffect_leaves {force : Bool} (hw : argNat a 0 = w.val) (hf : argFlag (argNat a 1) = some force)
    (hs : (s.window w).state.takesClaims = true) :
    (force = false → s.lease w ≠ none → retireWindowEffect s m a = (s, ⟨.leased, []⟩)) ∧
    (force = false → s.lease w = none → retireWindowEffect s m a = s.leaveTable w m) ∧
    (force = true → retireWindowEffect s m a = (s.forceOut w m).leaveTable w m) := by
  refine ⟨?_, ?_, ?_⟩
  · rintro rfl hl
    simp [retireWindowEffect, argFin_eq_some w hw, hf, hs, Option.isSome_iff_ne_none.mpr hl, refusedWith]
  · rintro rfl hl
    simp [retireWindowEffect, argFin_eq_some w hw, hf, hs, hl]
  · rintro rfl
    simp [retireWindowEffect, argFin_eq_some w hw, hf, hs]

/-- Settles O18: what force clears leaves the window's record, and the change of state follows its count. -/
theorem retireTakesAWindowOut : Obligations.RetireTakesAWindowOut := by
  unfold Obligations.RetireTakesAWindowOut
  intro s m a w force h hw hf hs
  obtain ⟨leased, unforced, forced⟩ := retireWindowEffect_leaves (m := m) hw hf (takesClaims_of hs)
  refine ⟨fun hn hl => exec_onTable rfl h (leased hn hl), ?_⟩
  intro cleared hc
  have key : retireWindowEffect s m a = cleared.leaveTable w m ∧ cleared.window w = s.window w := by
    rcases hc with ⟨hn, hl, rfl⟩ | ⟨hy, revoked, h0, h1, hc⟩
    · exact ⟨unforced hn hl, rfl⟩
    · obtain ⟨revoked', h0', h1', he⟩ := forceOut_cases s w m
      have hr : revoked = revoked' := by
        cases hl : s.lease w with
        | none => rw [h0 hl, h0' hl]
        | some l => rw [h1 l hl, h1' l hl]
      rw [hr, ← he] at hc
      rw [hc]
      exact ⟨forced hy, by simp [State.window, (forceOut_frame s w m).1]⟩
  obtain ⟨he, hcw⟩ := key
  refine ⟨fun hn => exec_onTable rfl h ?_, fun hn => exec_onTable rfl h ?_⟩
  · rw [he, State.leaveTable, hcw, if_pos hn]
  · rw [he, State.leaveTable, hcw, if_neg hn]

/-! ### SET_DEFAULT, SET_TICK and SET_TARGET (R15, R44, R96) -/

/-- A direction, route kind or target that SET_DEFAULT does not define. -/
theorem setDefaultEffect_badField
    (h : 1 < argNat a 0 ∨ (argNat a 1 ≠ 0 ∧ argNat a 1 ≠ 3) ∨ (argNat a 1 = 3 ∧ 3 < argNat a 2)) :
    setDefaultEffect s m a = (s, ⟨.badField, []⟩) := by
  unfold setDefaultEffect
  rcases h with h | h
  · rw [argDirection_eq_none h]; rfl
  · rw [argDefaultRoute_eq_none h]
    cases argDirection (argNat a 0) with
    | none => rfl
    | some k => cases k <;> rfl

/-- Settles O22: each command by the range of its arguments. -/
theorem settingsCommands : Obligations.SettingsCommands := by
  unfold Obligations.SettingsCommands
  intro s m a
  refine ⟨fun h => ⟨fun r h0 hr => exec_onTable rfl h ?_, fun r h0 hr => exec_onTable rfl h ?_,
    fun hb => exec_onTable rfl h (setDefaultEffect_badField hb)⟩,
    fun h => ⟨fun h0 h1 h2 => exec_atBlock (s' := s.setTime ⟨argNat a 0, argNat a 1, 0, s.time.due⟩) rfl h ?_,
      fun hb => exec_atBlock rfl h ?_⟩,
    fun h => ⟨fun t ht h1 h2 => exec_atBlock rfl h ?_, fun h0 hb => exec_atBlock rfl h ?_, fun h0 => exec_atBlock rfl h ?_⟩⟩
  · simp [setDefaultEffect, h0, argDirection, hr]
  · simp [setDefaultEffect, h0, argDirection, hr]
  · have : ¬(Config.maxScale < argNat a 0 ∨ argNat a 1 = 0 ∨ Config.maxDivider < argNat a 1) := by
      simp only [Config.maxScale, Config.maxDivider]; omega
    rw [setTickEffect, if_neg this]
  · rw [setTickEffect, if_pos (by simpa [Config.maxScale, Config.maxDivider] using hb)]
  · have : ¬(Config.maxTimeout < argNat a 1 ∨ Config.maxThreshold < argNat a 2) := by
      simp only [Config.maxTimeout, Config.maxThreshold]; omega
    simp only [setTargetEffect, argFin_eq_some t ht, if_neg this]
  · have : Config.maxTimeout < argNat a 1 ∨ Config.maxThreshold < argNat a 2 := hb
    simp only [setTargetEffect, argFin_of_lt (Nat.lt_succ_of_le h0), if_pos this, refuseTarget]
  · simp only [setTargetEffect, argFin_eq_none (Nat.succ_le_of_lt h0), refuseTarget]

/-! ### QUERY_WINDOW and QUERY_TARGET (R14, R97) -/

theorem windowWords_of_none (h : s.lease w = none) :
    s.windowWords w = [(s.window w).state.code, (s.window w).tier, 0xFF, 0, 0, (s.queueOf w).length, (s.window w).inFlight] := by
  simp [State.windowWords, State.holder, h, masterField, leaseKindField, leaseRemaining]

theorem windowWords_of_some {l : Lease} (h : s.lease w = some l) :
    s.windowWords w = [(s.window w).state.code, (s.window w).tier, l.holder.val, l.kind.code, l.remaining, (s.queueOf w).length,
      (s.window w).inFlight] := by
  simp [State.windowWords, State.holder, h, masterField, leaseKindField, leaseRemaining]

/-- Settles O23: the words of each query, and the flag of QUERY_TARGET. -/
theorem queriesReport : Obligations.QueriesReport := by
  unfold Obligations.QueriesReport
  intro s m a
  refine ⟨fun w h hw => ⟨fun hl => exec_onTable rfl h ?_, fun l hl => exec_onTable rfl h ?_⟩,
    fun t h ht => ⟨fun h1 => exec_atBlock rfl h ?_, fun h1 => exec_atBlock rfl h ?_, fun h1 => exec_atBlock rfl h ?_⟩⟩
  · simp only [queryWindowEffect, argFin_eq_some w hw, windowWords_of_none hl]
  · simp only [queryWindowEffect, argFin_eq_some w hw, windowWords_of_some hl]
  · simp [queryTargetEffect, argFin_eq_some t ht, h1, argFlag, TargetPort.queryWords]
  · simp [queryTargetEffect, argFin_eq_some t ht, h1, argFlag, TargetPort.queryWords]
  · simp [queryTargetEffect, argFin_eq_some t ht, argFlag_eq_none h1, refuseTarget]

end Sys2Proof.Machine
end

section
/-! Refusals: the first checks of the delivered commands, and that a refused one changes nothing (O21, O27). -/

namespace Sys2Proof.Machine

-- One proof after the other, as in the tests: together they would take too many threads, and their stacks too much memory.
set_option Elab.async false

variable {s t : State} {m : MasterId} {a : Args} {w : WindowId}

/-! ### The first checks (R6, R8, R9, R12, R47, R48, R97, R109) -/

/-- A direction, route kind or target that SET_ROUTE does not define (R8). -/
theorem setRouteEffect_badField (hw : argNat a 0 < 48)
    (h : 1 < argNat a 1 ∨ 4 < argNat a 2 ∨ (argNat a 1 = 0 ∧ (argNat a 2 = 2 ∨ argNat a 2 = 4)) ∨
      (argNat a 1 = 1 ∧ argNat a 2 = 1) ∨ (3 ≤ argNat a 2 ∧ 3 < argNat a 3) ∨ (argNat a 2 = 4 ∧ 3 < argNat a 5)) :
    setRouteEffect s m a = (s, ⟨.badField, []⟩) := by
  unfold setRouteEffect
  rw [argFin_of_lt hw]
  dsimp only
  by_cases h1 : 1 < argNat a 1
  · rw [argDirection_eq_none h1]; rfl
  · obtain h0 | h0 : argNat a 1 = 0 ∨ argNat a 1 = 1 := by omega
    · rw [h0, argReadRoute_eq_none _ (by omega)]; rfl
    · rw [h0, argWriteRoute_eq_none _ _ (by omega)]; rfl

/-- CLAIM's fields are in range (R48). -/
abbrev claimFields (a : Args) : Prop :=
  (argNat a 1 = 1 ∨ argNat a 1 = 2) ∧ 1 ≤ argNat a 2 ∧ argNat a 2 ≤ 4095 ∧ argNat a 4 < argNat a 2 ∧ argNat a 3 ≤ 4095

/-- What CLAIM's first two checks pass are fields in range. -/
theorem claimFields_iff (a : Args) :
    claimFields a ↔
      (∃ kind, argLeaseKind (argNat a 1) = some kind) ∧ claimFieldsOk (argNat a 2) (argNat a 3) (argNat a 4) = true := by
  have hk : (argNat a 1 = 1 ∨ argNat a 1 = 2) ↔ ∃ kind, argLeaseKind (argNat a 1) = some kind := by
    unfold argLeaseKind
    split <;> (try split) <;> simp_all
  rw [← hk]
  simp only [claimFields, claimFieldsOk, Bool.and_eq_true, decide_eq_true_eq]
  simp only [Config.maxDuration, Config.maxWarnAt, Config.noWaitLimit]
  constructor
  · rintro ⟨hk, h1, h2, h3, h4⟩; exact ⟨hk, by omega⟩
  · rintro ⟨hk, h⟩; exact ⟨hk, by omega⟩

theorem claimEffect_badField (hw : argNat a 0 = w.val) (h : ¬claimFields a) : claimEffect s m a = (s, ⟨.badField, []⟩) := by
  rw [claimFields_iff] at h
  unfold claimEffect
  rw [argFin_eq_some w hw]
  dsimp only
  cases hk : argLeaseKind (argNat a 1) with
  | none => rfl
  | some kind =>
    have hf : claimFieldsOk (argNat a 2) (argNat a 3) (argNat a 4) = false := by
      simpa [hk] using h
    simp [hf, refusedWith]

/-- CLAIM's effect once its fields are in range, on a window that takes no claim or is not leasable. -/
theorem claimEffect_refusesWindow (hw : argNat a 0 = w.val) (h : claimFields a) :
    ((s.window w).state.takesClaims = false → claimEffect s m a = (s, ⟨.badState, []⟩)) ∧
    ((s.window w).state.takesClaims = true → (s.window w).policy = .none → claimEffect s m a = (s, ⟨.notLeasable, []⟩)) := by
  obtain ⟨⟨kind, hk⟩, hf⟩ := (claimFields_iff a).mp h
  exact ⟨fun hs => by simp [claimEffect, argFin_eq_some w hw, hk, hf, hs, refusedWith],
    fun hs hp => by simp [claimEffect, argFin_eq_some w hw, hk, hf, hs, hp, refusedWith]⟩

/-- Settles O21: each command's first checks, in the order of its effect. -/
theorem theFirstChecksOfDeliveredCommands : Obligations.TheFirstChecksOfDeliveredCommands := by
  unfold Obligations.TheFirstChecksOfDeliveredCommands
  intro s m a
  refine ⟨fun h48 => ⟨?_, ?_⟩, fun h4 => ?_, fun hlt => ⟨fun h hb => ?_, fun h hb => ?_, fun h hb => ?_, fun h hb => ?_⟩,
    fun w hw => ⟨fun h h1 hs => ?_, fun h => ⟨fun hb => ?_, fun hf hs => ?_, fun hf hs hp => ?_⟩⟩⟩
  · have hi := argFin_eq_none h48
    simp only [List.forall_mem_cons]
    exact ⟨fun h => exec_onTable rfl h (by simp [defineWindowEffect, hi, refusedWith]),
      fun h => exec_onTable rfl h (by simp [setRouteEffect, hi, refusedWith]),
      fun h => exec_onTable rfl h (by simp [setAccessEffect, hi, refusedWith]),
      fun h => exec_onTable rfl h (by simp [enableWindowEffect, hi, refusedWith]),
      fun h => exec_onTable rfl h (by simp [disableWindowEffect, hi, refusedWith]),
      fun h => exec_onTable rfl h (by simp [retireWindowEffect, hi, refusedWith]),
      fun h => exec_onTable rfl h (by simp [queryWindowEffect, hi, refusedWith]), nofun⟩
  · have hi := argFin_eq_none h48
    simp only [List.forall_mem_cons]
    exact ⟨fun h => exec_atBlock rfl h (by simp [claimEffect, hi, refusedWith]),
      fun h => exec_atBlock rfl h (by simp [renewEffect, hi, refusedWith]),
      fun h => exec_atBlock rfl h (by simp [releaseEffect, hi, refusedWith]),
      fun h => exec_atBlock rfl h (by simp [withdrawEffect, hi, refusedWith]),
      fun h => exec_atBlock rfl h (by simp [revokeEffect, hi, refusedWith]), nofun⟩
  · have hi := argFin_eq_none h4
    simp only [List.forall_mem_cons]
    exact ⟨fun h => exec_atBlock rfl h (by simp [queryTargetEffect, hi, refuseTarget]),
      fun h => exec_atBlock rfl h (by simp [fenceEffect, hi, refuseTarget]),
      fun h => exec_atBlock rfl h (by simp [unfenceEffect, hi, refuseTarget]), nofun⟩
  · have hi := argFin_of_lt hlt
    refine exec_onTable rfl h ?_
    by_cases h3 : 3 < argNat a 3
    · unfold defineWindowEffect
      rw [hi]
      dsimp only
      split
      · rfl
      · rw [if_pos h3]; rfl
    · have ha := argAccess_eq_none (n1 := argNat a 4) (n2 := argNat a 5) (n3 := argNat a 6) (n4 := argNat a 7)
        (n5 := argNat a 8) (by omega)
      simp [defineWindowEffect, hi, ha, refusedWith]
  · exact exec_onTable rfl h (setRouteEffect_badField hlt hb)
  · have ha := argAccess_eq_none (n1 := argNat a 3) (n2 := argNat a 1) (n3 := argNat a 2) (n4 := argNat a 4)
      (n5 := argNat a 5) (by omega)
    exact exec_onTable rfl h (by simp [setAccessEffect, argFin_of_lt hlt, ha, refusedWith])
  · exact exec_onTable rfl h (by simp [retireWindowEffect, argFin_of_lt hlt, argFlag_eq_none hb, refusedWith])
  · exact exec_onTable rfl h
      (by simp [retireWindowEffect, argFin_eq_some w hw, argFlag_of_le h1, not_takesClaims hs, refusedWith])
  · exact exec_atBlock rfl h (claimEffect_badField hw hb)
  · exact exec_atBlock rfl h ((claimEffect_refusesWindow hw hf).1 (not_takesClaims hs))
  · exact exec_atBlock rfl h ((claimEffect_refusesWindow hw hf).2 (takesClaims_of hs) hp)

/-! ### Refused commands (R6, R47, R134) -/

/-- An effect that refuses the command, or finds nothing to do, leaves the part as it was. -/
def Refuses (s : State) (p : State × Reply) : Prop := p.2.code.accepts = false → p.1 = s

theorem Refuses.tableTaken {p : State × Reply} (h : Refuses s p) (e : (tableTaken p).2.code.accepts = false) :
    (tableTaken p).1 = s.redecideHeads := by
  rw [Machine.tableTaken, h e]

theorem refuses_defineWindow (s : State) (m : MasterId) (a : Args) : Refuses s (defineWindowEffect s m a) := by
  unfold defineWindowEffect
  (repeat' split) <;> simp [Refuses, refusedWith, State.defineAs, Result.accepts]

theorem refuses_setRoute (s : State) (m : MasterId) (a : Args) : Refuses s (setRouteEffect s m a) := by
  unfold setRouteEffect
  (repeat' split) <;> simp [Refuses, refusedWith, State.defineAs, Result.accepts]

theorem refuses_setAccess (s : State) (m : MasterId) (a : Args) : Refuses s (setAccessEffect s m a) := by
  unfold setAccessEffect
  (repeat' split) <;> simp [Refuses, refusedWith, State.defineAs, Result.accepts]

theorem refuses_enableWindow (s : State) (m : MasterId) (a : Args) : Refuses s (enableWindowEffect s m a) := by
  unfold enableWindowEffect
  (repeat' split) <;> simp [Refuses, refusedWith, State.defineAs, Result.accepts]

theorem refuses_disableWindow (s : State) (m : MasterId) (a : Args) : Refuses s (disableWindowEffect s m a) := by
  unfold disableWindowEffect
  (repeat' split) <;> simp [Refuses, refusedWith, State.defineAs, Result.accepts]

theorem leaveTable_accepts (s : State) (w : WindowId) (m : MasterId) : (s.leaveTable w m).2.code.accepts = true := by
  unfold State.leaveTable
  split <;> rfl

theorem refuses_retireWindow (s : State) (m : MasterId) (a : Args) : Refuses s (retireWindowEffect s m a) := by
  unfold retireWindowEffect
  (repeat' split) <;> simp [Refuses, refusedWith, leaveTable_accepts]

theorem refuses_setDefault (s : State) (m : MasterId) (a : Args) : Refuses s (setDefaultEffect s m a) := by
  unfold setDefaultEffect
  split <;> simp [Refuses, refusedWith, Result.accepts]

theorem refuses_queryWindow (s : State) (m : MasterId) (a : Args) : Refuses s (queryWindowEffect s m a) := by
  unfold queryWindowEffect
  split <;> simp [Refuses, refusedWith]

theorem refuses_joinQueue (s : State) (m : MasterId) (w : WindowId) (kind : LeaseKind) (d l n : Nat) :
    Refuses s (s.joinQueue m w kind d l n) := by
  unfold State.joinQueue
  (repeat' split) <;> simp [Refuses, refusedWith, Result.accepts]

theorem refuses_claim (s : State) (m : MasterId) (a : Args) : Refuses s (claimEffect s m a) := by
  have joins := refuses_joinQueue s m
  unfold claimEffect
  (repeat' split) <;> simp_all [Refuses, refusedWith, Result.accepts]

theorem refuses_renew (s : State) (m : MasterId) (a : Args) : Refuses s (renewEffect s m a) := by
  unfold renewEffect
  (repeat' split) <;> simp [Refuses, refusedWith, Result.accepts]

theorem refuses_release (s : State) (m : MasterId) (a : Args) : Refuses s (releaseEffect s m a) := by
  unfold releaseEffect
  (repeat' split) <;> simp [Refuses, refusedWith, Result.accepts]

theorem refuses_withdraw (s : State) (m : MasterId) (a : Args) : Refuses s (withdrawEffect s m a) := by
  unfold withdrawEffect
  (repeat' split) <;> simp [Refuses, refusedWith, Result.accepts]

theorem refuses_revoke (s : State) (m : MasterId) (a : Args) : Refuses s (revokeEffect s m a) := by
  unfold revokeEffect
  (repeat' split) <;> simp [Refuses, refusedWith, Result.accepts]

theorem refuses_setTick (s : State) (m : MasterId) (a : Args) : Refuses s (setTickEffect s m a) := by
  unfold setTickEffect
  split <;> simp [Refuses, Result.accepts]

theorem refuses_setTarget (s : State) (m : MasterId) (a : Args) : Refuses s (setTargetEffect s m a) := by
  unfold setTargetEffect
  (repeat' split) <;> simp [Refuses, refuseTarget, Result.accepts]

theorem refuses_queryTarget (s : State) (m : MasterId) (a : Args) : Refuses s (queryTargetEffect s m a) := by
  unfold queryTargetEffect
  (repeat' split) <;> simp [Refuses, refuseTarget, Result.accepts]

theorem refuses_fence (s : State) (m : MasterId) (a : Args) : Refuses s (fenceEffect s m a) := by
  unfold fenceEffect
  (repeat' split) <;> simp [Refuses, refuseTarget, State.fenceReply, Result.accepts]

theorem refuses_unfence (s : State) (m : MasterId) (a : Args) : Refuses s (unfenceEffect s m a) := by
  unfold unfenceEffect
  (repeat' split) <;> simp [Refuses, refuseTarget, State.fenceReply, Result.accepts]

/-- The commands taken at the window table (R17, log 6). -/
abbrev tableCommands : List Command :=
  [.defineWindow, .setRoute, .setAccess, .enableWindow, .disableWindow, .retireWindow, .setDefault, .queryWindow]

/-- What a refused command leaves: its answer, and the fresh decisions of one taken at the window table. -/
def RefusedAs (s t : State) (m : MasterId) (k : Command) (r : Result) : Prop :=
  ∃ words : List Nat, (k ∈ tableCommands → t = s.redecideHeads.answered m r words) ∧
    (k ∉ tableCommands → t = s.answered m r words)

theorem answered_result (s : State) (m : MasterId) (r : Result) (words : List Nat) :
    ((s.answered m r words).slot m).result = some r := by
  simp [State.answered, State.slot]

theorem refusedAs_onTable {k : Command} {effect : State → MasterId → Args → State × Reply} {r : Result}
    (hk : k ∈ tableCommands) (hf : ∀ m a, Refuses s (effect s m a)) (h : s.delivered m k a)
    (hx : happening s (fun s => s.takeDelivered k fun s m a => tableTaken (effect s m a)) = .next t)
    (hr : (t.slot m).result = some r) (ha : r.accepts = false) : RefusedAs s t m k r := by
  rw [takeDelivered_delivered _ h] at hx
  cases hx
  rw [answered_result] at hr
  cases hr
  exact ⟨_, fun _ => by rw [(hf m a).tableTaken ha], fun hn => absurd hk hn⟩

theorem refusedAs_atBlock {k : Command} {effect : State → MasterId → Args → State × Reply} {r : Result}
    (hk : k ∉ tableCommands) (hf : ∀ m a, Refuses s (effect s m a)) (h : s.delivered m k a)
    (hx : happening s (fun s => s.takeDelivered k effect) = .next t) (hr : (t.slot m).result = some r)
    (ha : r.accepts = false) : RefusedAs s t m k r := by
  rw [takeDelivered_delivered _ h] at hx
  cases hx
  rw [answered_result] at hr
  cases hr
  exact ⟨_, fun hn => absurd hn hk, fun _ => by rw [hf m a ha]⟩

/-- Settles O27: the effect of every delivered command leaves the part where it refuses. -/
theorem refusedCommandsChangeNothing : Obligations.RefusedCommandsChangeNothing := by
  unfold Obligations.RefusedCommandsChangeNothing
  intro c k s t m a r hc h hx hr ha
  have onTable {effect : State → MasterId → Args → State × Reply} (hf : ∀ m a, Refuses s (effect s m a)) (hk : k ∈ tableCommands)
      (hx : happening s (fun s => s.takeDelivered k fun s m a => tableTaken (effect s m a)) = .next t) : RefusedAs s t m k r :=
    refusedAs_onTable hk hf h hx hr ha
  have atBlock {effect : State → MasterId → Args → State × Reply} (hf : ∀ m a, Refuses s (effect s m a))
      (hk : k ∉ tableCommands) (hx : happening s (fun s => s.takeDelivered k effect) = .next t) : RefusedAs s t m k r :=
    refusedAs_atBlock hk hf h hx hr ha
  change RefusedAs s t m k r
  unfold exec at hx
  cases c with
  | defineWindow => cases hc; exact onTable (refuses_defineWindow s) (by decide) hx
  | setRoute => cases hc; exact onTable (refuses_setRoute s) (by decide) hx
  | setAccess => cases hc; exact onTable (refuses_setAccess s) (by decide) hx
  | enableWindow => cases hc; exact onTable (refuses_enableWindow s) (by decide) hx
  | disableWindow => cases hc; exact onTable (refuses_disableWindow s) (by decide) hx
  | retireWindow => cases hc; exact onTable (refuses_retireWindow s) (by decide) hx
  | setDefault => cases hc; exact onTable (refuses_setDefault s) (by decide) hx
  | queryWindow => cases hc; exact onTable (refuses_queryWindow s) (by decide) hx
  | claim => cases hc; exact atBlock (refuses_claim s) (by decide) hx
  | renew => cases hc; exact atBlock (refuses_renew s) (by decide) hx
  | release => cases hc; exact atBlock (refuses_release s) (by decide) hx
  | withdraw => cases hc; exact atBlock (refuses_withdraw s) (by decide) hx
  | revoke => cases hc; exact atBlock (refuses_revoke s) (by decide) hx
  | setTick => cases hc; exact atBlock (refuses_setTick s) (by decide) hx
  | setTarget => cases hc; exact atBlock (refuses_setTarget s) (by decide) hx
  | queryTarget => cases hc; exact atBlock (refuses_queryTarget s) (by decide) hx
  | fenceTarget => cases hc; exact atBlock (refuses_fence s) (by decide) hx
  | unfenceTarget => cases hc; exact atBlock (refuses_unfence s) (by decide) hx
  | _ => cases hc

end Sys2Proof.Machine
end

section
/-! Heads: the fall of a window's count, the fresh decision of a held head, and the binding of a request with
one target (O19, O20, O36). -/

namespace Sys2Proof.Machine

-- One proof after the other, as in the tests: together they would take too many threads, and their stacks too much memory.
set_option Elab.async false

variable {s : State} {m : MasterId} {w : WindowId}

/-! ### The fall of a count (R16, R19) -/

theorem State.finishRetirement_of_not (h : (s.window w).state ≠ .retiring ∨ (s.window w).inFlight ≠ 0) :
    s.finishRetirement w = s := if_neg (by tauto)

/-- What a drained RETIRING window becomes: FREE, with WINDOW_RETIRED to its retiring master. -/
theorem State.finishRetirement_of_drained (hs : (s.window w).state = .retiring) (hn : (s.window w).inFlight = 0) :
    ((s.window w).retiringMaster = none → s.finishRetirement w = s.setWindow w WindowRecord.freeRecord) ∧
    (∀ m, (s.window w).retiringMaster = some m →
      s.finishRetirement w = (s.setWindow w WindowRecord.freeRecord).post m (.windowRetired w)) := by
  unfold State.finishRetirement
  rw [if_pos ⟨hs, hn⟩]
  exact ⟨fun h => by rw [h], fun m h => by rw [h]⟩

theorem exec_windowRetired (hr : s.rstN = .released) (w : WindowId) :
    exec (.windowRetired w) s = .next (s.finishRetirement w) := happening_released _ hr

/-- Settles O19: a fall is the change of the count and then the retirement of a drained window. -/
theorem theLastFallFreesARetiringWindow : Obligations.TheLastFallFreesARetiringWindow := by
  unfold Obligations.TheLastFallFreesARetiringWindow
  intro s w
  have fallen : (s.setWindow w { s.window w with inFlight := (s.window w).inFlight - 1 }).window w =
      { s.window w with inFlight := (s.window w).inFlight - 1 } := by simp
  refine ⟨fun h => ?_, fun hs hn => ?_, fun hr => ⟨fun h => ?_, fun hs hn => ?_⟩⟩
  · refine State.finishRetirement_of_not ?_
    rw [fallen]
    exact h.imp id fun h => by show _ - 1 ≠ 0; omega
  · have drained := State.finishRetirement_of_drained
      (s := s.setWindow w { s.window w with inFlight := (s.window w).inFlight - 1 }) (w := w) (by rw [fallen]; exact hs)
      (by rw [fallen]; show _ - 1 = 0; omega)
    rw [fallen, State.setWindow_setWindow] at drained
    exact drained
  · rw [exec_windowRetired hr, State.finishRetirement_of_not h]
  · have drained := State.finishRetirement_of_drained hs hn
    rw [exec_windowRetired hr]
    exact ⟨fun h => by rw [drained.1 h], fun m h => by rw [drained.2 m h]⟩

/-! ### A head decided again (R17) -/

/-- The part with the head of one queue replaced. -/
def State.withHead (s : State) (m : MasterId) (r : Request) (rest : List Request) : State :=
  s.setPort m { s.port m with inbound := r :: rest }

@[simp] theorem State.withHead_port (r : Request) (rest : List Request) :
    (s.withHead m r rest).port m = { s.port m with inbound := r :: rest } := by
  simp [State.withHead]

/-- A decision reads the windows, the leases, the targets and the port's generation, none of the queues. -/
theorem State.steered_withHead (r q : Request) (rest : List Request) : (s.withHead m q rest).steered m r = s.steered m r := by
  have hg : ((s.withHead m q rest).port m).generation = (s.port m).generation := by simp
  unfold State.steered State.defaultDecision State.windowDecision State.routeDecision
  rw [hg]
  rfl

theorem State.steered_congr {r q : Request} (hk : q.kind = r.kind) (ha : q.address = r.address) :
    s.steered m q = s.steered m r := by
  unfold State.steered State.defaultDecision State.windowDecision State.routeDecision
  rw [hk, ha]

/-- What a decision other than a control page access does to a head does not depend on how the head stood undecided. -/
theorem State.carryOut_withHead {r q : Request} {rest : List Request} {d : Decision} (hi : (s.port m).inbound = r :: rest)
    (held : Bool) (hq : q = { r with binding := .unbound held }) (hd : d ≠ .controlPage) :
    (s.withHead m q rest).carryOut m q d = s.carryOut m r d := by
  have leave : (s.withHead m q rest).leaveHead m = s.leaveHead m := by
    unfold State.leaveHead
    rw [State.withHead_port, hi]
    exact State.setPort_setPort s m _ _
  have rebind (b : Binding) : (s.withHead m q rest).rebindHead m b = s.rebindHead m b := by
    unfold State.rebindHead
    rw [State.withHead_port, hi, hq]
    exact State.setPort_setPort s m _ _
  have hold : (s.withHead m q rest).holdHead m = s.holdHead m := by
    unfold State.holdHead
    rw [State.withHead_port, hi, hq]
    exact State.setPort_setPort s m _ _
  have completes (f : CompletionFrame) : (s.withHead m q rest).completeHead m f = s.completeHead m f := by
    unfold State.completeHead
    rw [leave]
  have ht : q.tag = r.tag := by rw [hq]
  have hl : q.length = r.length := by rw [hq]
  cases d with
  | controlPage => exact absurd rfl hd
  | refuse code => simp only [State.carryOut, State.refuseHead, completes, ht]
  | heldElsewhere w => simp only [State.carryOut, State.refuseHead, completes, ht]
  | fill => simp only [State.carryOut, completes, ht, hl]
  | discard => simp only [State.carryOut, completes, ht]
  | bind b => simp only [State.carryOut, State.bindHead, rebind]
  | waitAtLimit => simp only [State.carryOut, hold]

theorem State.heldHead_of_inbound {r : Request} {rest : List Request} (hi : (s.port m).inbound = r :: rest)
    (hb : r.binding = .unbound true) : s.heldHead m = some r := by
  simp [State.heldHead, State.head_of_inbound hi, hb]

theorem State.heldHead_eq_none (h : ∀ r rest, (s.port m).inbound = r :: rest → r.binding ≠ .unbound true) :
    s.heldHead m = none := by
  unfold State.heldHead
  split
  · next r hr => exact if_neg (h r _ (State.inbound_of_head hr))
  · rfl

theorem exec_steeringDecision (hr : s.rstN = .released) (m : MasterId) :
    exec (.steeringDecision m) s = .next (s.decideHead m) := happening_released (fun s => s.decideHead m) hr

theorem countFell_iff (s before : State) :
    s.countFell before = true ↔ ∃ w, (s.window w).inFlight < (before.window w).inFlight := by
  simp [State.countFell, mem_allWindows]

/-- Settles O20: the fresh decision is the steered one, carried out on a head that stands as if never decided. -/
theorem aHeldHeadIsDecidedAfresh : Obligations.AHeldHeadIsDecidedAfresh := by
  unfold Obligations.AHeldHeadIsDecidedAfresh
  intro s
  refine ⟨rfl, fun before => ⟨fun h => if_pos ((countFell_iff s before).mpr h), fun h => if_neg fun e => ?_⟩, fun m =>
    ⟨fun h => redecideHead_none (State.heldHead_eq_none h), fun r rest hi hb hr => ⟨?_, fun hp => ?_⟩⟩⟩
  · obtain ⟨w, hw⟩ := (countFell_iff s before).mp e
    exact absurd hw (Nat.not_lt.mpr (h w))
  · have due : s.dueHead m = none := by simp [State.dueHead, State.head_of_inbound hi, hb]
    rw [exec_steeringDecision hr, State.decideHead, due]
  · obtain ⟨q, hq⟩ : ∃ q : Request, q = { r with binding := .unbound false } := ⟨_, rfl⟩
    rw [← hq]
    have decides : (s.withHead m q rest).decides m q := by
      refine ⟨hr, ?_⟩
      have : (s.withHead m q rest).head m = some q := State.head_of_inbound (rest := rest) (by simp)
      simp only [State.dueHead, this, show q.binding = .unbound false by rw [hq], if_true]
    have hp : inControlPage q.address = false := by rw [hq]; exact hp
    have same : s.steered m q = s.steered m r := State.steered_congr (by rw [hq]) (by rw [hq])
    rw [redecideHead_held (State.heldHead_of_inbound hi hb)]
    refine (steeringDecision_decides decides).trans ?_
    rw [decision_steered hp, State.steered_withHead, same, State.carryOut_withHead hi false hq (State.steered_ne_controlPage s m r)]

/-! ### A request with one target (R26, R32, R33, R36, R83) -/

/-- The decision of a request that reaches a window's TARGET route. -/
theorem decision_toTarget {r : Request} {t : TargetId} {base : Word} (h : s.reaches m r w)
    (hk : r.kind = .read ∧ (s.window w).readRoute = .target t base ∨ r.kind = .write ∧ (s.window w).writeRoute = .target t base) :
    s.decision m r = s.countLimited w
      (s.oneTarget t ⟨(s.port m).generation, some w, .single t (base + (r.address - (s.window w).base))⟩) := by
  rw [decision_reaches h]
  unfold State.routeDecision
  rcases hk with ⟨hk, hr⟩ | ⟨hk, hr⟩
  · rw [hk, hr]; rfl
  · rw [hk, hr]; rfl

/-- The decision of a request that a TARGET default route takes. -/
theorem decision_toDefault {r : Request} {t : TargetId} (hp : inControlPage r.address = false)
    (hm : s.matchWindow r.address = none) (hd : s.defaultRoute r.kind = .target t) :
    s.decision m r = s.oneTarget t ⟨(s.port m).generation, none, .single t r.address⟩ := by
  rw [decision_steered hp, State.steered, hm]
  simp only [State.defaultDecision, hd]

theorem oneTarget_refuses {t : TargetId} (b : Binding) (h : (s.target t).state ≠ .online) :
    s.oneTarget t b = .refuse (s.target t).state.refusalCode := if_neg h

/-- What binding a head to one target does. -/
theorem bindHead_single {r : Request} {rest : List Request} (hi : (s.port m).inbound = r :: rest) (g : Nat) (t : TargetId)
    (address : Word) (w : Option WindowId) :
    s.bindHead m ⟨g, w, .single t address⟩ =
      ((s.withHead m { r with binding := .bound ⟨g, w, .single t address⟩ } rest).bindingBegins w).startWaiting m t := by
  unfold State.bindHead State.rebindHead
  rw [hi]
  rfl

/-- Settles O36: the decision by the target's state and the window's count, and what a binding does. -/
theorem aSingleTargetRequestIsBound : Obligations.ASingleTargetRequestIsBound := by
  unfold Obligations.ASingleTargetRequestIsBound
  intro s m r rest t hi
  refine ⟨fun w base h hk => ⟨fun ho hn => ?_, fun ho hn => ?_⟩, fun h hp hm hd ho => ?_, fun h => ?_⟩
  · refine (steeringDecision_decides h.1).trans ?_
    have hn : (s.window w).inFlight < Config.maxInFlight := hn
    rw [decision_toTarget h hk, State.oneTarget, if_pos ho]
    simp only [State.countLimited, if_pos hn, State.carryOut, bindHead_single hi]
    rfl
  · refine (steeringDecision_decides h.1).trans ?_
    have hn : ¬(s.window w).inFlight < Config.maxInFlight := Nat.not_lt.mpr hn
    rw [decision_toTarget h hk, State.oneTarget, if_pos ho]
    simp only [State.countLimited, if_neg hn, State.carryOut, State.holdHead, hi]
  · refine (steeringDecision_decides h).trans ?_
    rw [decision_toDefault hp hm hd, State.oneTarget, if_pos ho, State.carryOut, bindHead_single hi]
    rfl
  · have refused : (s.target t).state ≠ .online → exec (.steeringDecision m) s =
        .next (s.returned m (refusal r.tag (s.target t).state.refusalCode)) := by
      intro ho
      rcases h with ⟨w, base, h, hk⟩ | ⟨h, hp, hm, hd⟩
      · refine (steeringDecision_decides h.1).trans ?_
        rw [decision_toTarget h hk, oneTarget_refuses _ ho, State.countLimited, State.carryOut, State.refuseHead,
          completeHead_returned]
      · refine (steeringDecision_decides h).trans ?_
        rw [decision_toDefault hp hm hd, oneTarget_refuses _ ho, State.carryOut, State.refuseHead, completeHead_returned]
    constructor
    · intro hf
      rw [refused (by rw [hf]; nofun), hf]
      rfl
    · rintro (hf | hf)
      · rw [refused (by rw [hf]; nofun), hf]; rfl
      · rw [refused (by rw [hf]; nofun), hf]; rfl

end Sys2Proof.Machine
end

section
/-! Targets: what the ends of transactions, the re-examination of the waiting heads and the fresh decisions
leave of a target port and of the links, and the target port's happenings (O9, O24, O43, O45). -/

namespace Sys2Proof.Machine

-- One proof after the other, as in the tests: together they would take too many threads, and their stacks too much memory.
set_option Elab.async false

variable {s t : State} {i : TargetId} {x : Xid}

/-! ### The outstanding count (R81) -/

/-- The end of a transaction lowers the outstanding count by one. -/
theorem TargetPort.outstanding_freeXid {p : TargetPort} {r : OutRecord} (h : p.record x = some r) :
    (p.freeXid x).outstanding + 1 = p.outstanding := by
  have key := sum_map_change (f := fun y => ((p.freeXid x).record y).isSome.toNat) (g := fun y => (p.record y).isSome.toNat)
    (List.nodup_finRange 16) (mem_allXids x) fun y hy => by simp [TargetPort.record, TargetPort.freeXid, Ne.symm hy]
  have hf : ((p.freeXid x).record x).isSome = false := by simp [TargetPort.record, TargetPort.freeXid]
  simp only [hf, h, Option.isSome_some, Bool.toNat_true, Bool.toNat_false] at key
  simp only [TargetPort.outstanding, length_filter_eq_sum, allXids]
  omega

/-- The end of the transaction of an xid in use, at its own port. -/
theorem State.endTransaction_target_self {r : OutRecord} (h : (s.target i).record x = some r) (o : EndOutcome)
    (data : List Byte) : ∃ ms, (s.endTransaction i x o data).target i = { (s.target i).freeXid x with mirrors := ms } := by
  obtain ⟨ms, he⟩ := State.endTransaction_target s i x o data i
  exact ⟨ms, by rw [he, if_pos ⟨rfl, by simp [h]⟩]⟩

/-! ### Notices touch no target port -/

theorem State.post_setTarget (s : State) (i : TargetId) (p : TargetPort) (m : MasterId) (b : NoticeBody) :
    (s.setTarget i p).post m b = (s.post m b).setTarget i p := by
  unfold State.post
  rw [(State.setTarget_derived s i p).2.2.1 m]
  split <;> rfl

theorem State.postEach_setTarget (s : State) (i : TargetId) (p : TargetPort) (ms : List MasterId) (b : NoticeBody) :
    (s.setTarget i p).postEach ms b = (s.postEach ms b).setTarget i p := by
  unfold State.postEach
  induction ms generalizing s with
  | nil => rfl
  | cons m ms ih => rw [List.foldl_cons, List.foldl_cons, State.post_setTarget, ih]

/-! ### The end of a drain (R113) -/

theorem State.finishDrain_of_not (h : (s.target i).state ≠ .fencing ∨ (s.target i).outstanding ≠ 0) : s.finishDrain i = s :=
  if_neg (by tauto)

/-- A FENCING target that has drained is FENCED, and its requesters are told and forgotten. -/
theorem State.finishDrain_of_drained (hs : (s.target i).state = .fencing) (hn : (s.target i).outstanding = 0) :
    s.finishDrain i = (s.postEach (s.target i).requesters.members (.fenceDone i .fenced)).setTarget i
      { s.target i with state := .fenced, requesters := MasterSet.empty } := by
  unfold State.finishDrain
  rw [if_pos ⟨hs, hn⟩]
  unfold State.tellRequesters State.enterState
  rw [State.postEach_setTarget]
  simp

/-! ### The links and what else of a port stands (R94, R149) -/

/-- Between the two states every master port differs in its queue and its tags at most. -/
def State.SameLinks (s t : State) : Prop :=
  ∀ m, ∃ inbound tags, t.port m = { s.port m with inbound := inbound, tags := tags }

theorem State.SameLinks.refl (s : State) : s.SameLinks s := fun _ => ⟨_, _, rfl⟩

theorem State.SameLinks.trans {u : State} (h : s.SameLinks t) (h' : t.SameLinks u) : s.SameLinks u := by
  intro m
  obtain ⟨_, _, h⟩ := h m
  obtain ⟨_, _, h'⟩ := h' m
  exact ⟨_, _, by rw [h', h]⟩

theorem State.SameLinks.of_ports (h : t.ports = s.ports) : s.SameLinks t := fun m => ⟨_, _, by simp [State.port, h]; rfl⟩

theorem State.SameLinks.upMasters (h : s.SameLinks t) : t.upMasters = s.upMasters := by
  unfold State.upMasters
  congr 1
  funext m
  obtain ⟨_, _, h⟩ := h m
  rw [h]

theorem State.SameLinks.foldl {α : Type} {f : State → α → State} (h : ∀ (s : State) a, s.SameLinks (f s a)) (l : List α)
    (s : State) : s.SameLinks (l.foldl f s) := by
  induction l generalizing s with
  | nil => exact .refl s
  | cons a l ih => exact (h s a).trans (ih _)

theorem State.SameLinks.setPort {m : MasterId} {p : MasterPort}
    (h : ∃ inbound tags, p = { s.port m with inbound := inbound, tags := tags }) : s.SameLinks (s.setPort m p) := by
  intro k
  rw [State.setPort_port]
  split
  · next e => exact e ▸ h
  · exact ⟨_, _, rfl⟩

theorem State.SameLinks.endTransaction (s : State) (i : TargetId) (x : Xid) (o : EndOutcome) (data : List Byte) :
    s.SameLinks (s.endTransaction i x o data) := fun m => ⟨(s.port m).inbound, _, State.endTransaction_port s i x o data m⟩

theorem State.SameLinks.complete (s : State) (m : MasterId) (f : CompletionFrame) : s.SameLinks (s.complete m f) :=
  State.SameLinks.setPort (s := s.sendToMaster m f) ⟨(s.port m).inbound, _, rfl⟩

theorem State.SameLinks.reexamineHead (s : State) (i : TargetId) (m : MasterId) : s.SameLinks (s.reexamineHead i m) := by
  have stop : s.SameLinks (s.stopWaiting i m) := .of_ports (by simp)
  rcases reexamineHead_cases s i m with ⟨-, he⟩ | ⟨r, b, code, -, -, -, he⟩ | ⟨r, b, t1, a1, t2, a2, hr, -, -, -, he⟩
  · rw [he]; exact stop
  · rw [he]
    have left : (s.stopWaiting i m).SameLinks ((s.stopWaiting i m).leaveHead m) := .setPort ⟨_, _, rfl⟩
    have told : s.SameLinks ((s.stopWaiting i m).refuseHead m r.tag code) :=
      (stop.trans left).trans (.complete _ m (refusal r.tag code))
    exact told.trans (.of_ports (by simp))
  · rw [he, State.rebindHead_of_head (by simpa using hr)]
    exact stop.trans (.setPort ⟨_, _, rfl⟩)

theorem State.SameLinks.reexamine (s : State) (i : TargetId) : s.SameLinks (s.reexamine i) :=
  .foldl (fun s m => .reexamineHead s i m) _ _

/-! ### The re-examination empties the waiting set (R38, R112) -/

theorem State.reexamineHead_target (s : State) (i : TargetId) (m : MasterId) (j : TargetId) :
    (s.reexamineHead i m).target j =
      if i = j then { s.target i with waiting := (s.target i).waiting.erase m } else s.target j := by
  have stop : (s.stopWaiting i m).target j =
      if i = j then { s.target i with waiting := (s.target i).waiting.erase m } else s.target j := State.setTarget_target ..
  rcases reexamineHead_cases s i m with ⟨-, he⟩ | ⟨r, b, code, -, -, -, he⟩ | ⟨r, b, t1, a1, t2, a2, -, -, -, -, he⟩
  · rw [he]; exact stop
  · rw [he]; simpa using stop
  · rw [he]; simpa using stop

theorem State.foldl_reexamineHead_target (l : List MasterId) (s : State) (i j : TargetId) :
    (l.foldl (fun s m => s.reexamineHead i m) s).target j =
      if i = j then { s.target i with waiting := l.foldl MasterSet.erase (s.target i).waiting } else s.target j := by
  induction l generalizing s with
  | nil => split <;> simp [*]
  | cons m l ih =>
    rw [List.foldl_cons, ih, State.reexamineHead_target, State.reexamineHead_target]
    split <;> simp [*]

theorem MasterSet.get_foldl_erase (l : List MasterId) (a : MasterSet) (m : MasterId) :
    (l.foldl MasterSet.erase a).get m = (!decide (m ∈ l) && a.get m) := by
  induction l generalizing a with
  | nil => simp
  | cons k l ih => 
    rw [List.foldl_cons, ih, MasterSet.get_erase]
    by_cases e : k = m
    · simp [e]
    · simp [e, Ne.symm e]

/-- After a re-examination nobody waits at the target, and nothing else of the target ports has changed. -/
theorem State.reexamine_target (s : State) (i j : TargetId) :
    (s.reexamine i).target j = if i = j then { s.target i with waiting := MasterSet.empty } else s.target j := by
  have he : (s.target i).waiting.members.foldl MasterSet.erase (s.target i).waiting = MasterSet.empty :=
    Table.ext_get fun m => by simp [MasterSet.get_foldl_erase]
  unfold State.reexamine
  rw [State.foldl_reexamineHead_target, he]

/-! ### Fresh decisions bind at most (R17) -/

/-- Between the two states every target port differs in its waiting set at most. -/
def State.SameButWaiting (s t : State) : Prop := ∀ j, ∃ w, t.target j = { s.target j with waiting := w }

theorem State.SameButWaiting.refl (s : State) : s.SameButWaiting s := fun _ => ⟨_, rfl⟩

theorem State.SameButWaiting.trans {u : State} (h : s.SameButWaiting t) (h' : t.SameButWaiting u) : s.SameButWaiting u := by
  intro j
  obtain ⟨_, h⟩ := h j
  obtain ⟨_, h'⟩ := h' j
  exact ⟨_, by rw [h', h]⟩

theorem State.SameButWaiting.of_targets (h : t.targets = s.targets) : s.SameButWaiting t :=
  fun j => ⟨(s.target j).waiting, by simp [State.target, h]⟩

theorem State.SameButWaiting.foldl {α : Type} {f : State → α → State} (h : ∀ (s : State) a, s.SameButWaiting (f s a))
    (l : List α) (s : State) : s.SameButWaiting (l.foldl f s) := by
  induction l generalizing s with
  | nil => exact .refl s
  | cons a l ih => exact (h s a).trans (ih _)

theorem State.SameButWaiting.redecideHead (s : State) (m : MasterId) : s.SameButWaiting (s.redecideHead m) := by
  unfold State.redecideHead
  split
  · next r _ =>
    unfold State.carryOut
    split
    · next hd => exact absurd hd (State.steered_ne_controlPage s m r)
    · exact .of_targets (by simp)
    · exact .of_targets (by simp)
    · exact .of_targets (by simp)
    · exact .of_targets (by simp)
    · intro j
      rw [State.bindHead_target]
      split
      · exact ⟨_, rfl⟩
      · exact ⟨_, rfl⟩
    · exact .of_targets (by simp)
  · exact .refl s

theorem State.SameButWaiting.redecideAfterFalls (s before : State) : s.SameButWaiting (s.redecideAfterFalls before) := by
  unfold State.redecideAfterFalls
  split
  · exact .foldl State.SameButWaiting.redecideHead _ s
  · exact .refl s

/-- What the fence's reply reads of a target is not changed by the fresh decisions. -/
theorem State.redecideAfterFalls_reply (s before : State) (i : TargetId) :
    ((s.redecideAfterFalls before).target i).state = (s.target i).state ∧
    ((s.redecideAfterFalls before).target i).outstanding = (s.target i).outstanding := by
  obtain ⟨w, h⟩ := State.SameButWaiting.redecideAfterFalls s before i
  rw [h]
  exact ⟨rfl, rfl⟩

/-- The fresh decisions depend on the counts of the state before only. -/
theorem State.redecideAfterFalls_congr {before before' : State} (h : before'.windows = before.windows) :
    s.redecideAfterFalls before' = s.redecideAfterFalls before := by
  unfold State.redecideAfterFalls State.countFell State.window
  rw [h]

/-! ### Timeouts (R89 to R91) -/

/-- The end of a transaction does not depend on the count of its record. -/
theorem endTransaction_counted {r : OutRecord} (h : (s.target i).record x = some r) (o : EndOutcome) (data : List Byte) :
    (s.setTarget i { s.target i with records := (s.target i).records.put x (some r.count) }).endTransaction i x o data =
      s.endTransaction i x o data := by
  have hc : ((s.setTarget i { s.target i with records := (s.target i).records.put x (some r.count) }).target i).record x =
      some r.count := by simp [TargetPort.record]
  unfold State.endTransaction
  rw [hc, h]
  have hf : (s.setTarget i { s.target i with records := (s.target i).records.put x (some r.count) }).setTarget i
      (((s.setTarget i { s.target i with records := (s.target i).records.put x (some r.count) }).target i).freeXid x) =
      s.setTarget i ((s.target i).freeXid x) := by
    simp [TargetPort.freeXid]
  simp only [hf]
  rfl

/-- A record that times out at its count, as TIMEOUT and as the tick's count. -/
theorem exec_timeOut {r : OutRecord} {c : Instr} (hr : s.rstN = .released) (hx : (s.target i).record x = some r)
    (ho : r.owed = true) (ht : r.timesOut (s.target i).timeout = true) (hc : c = .timeout i x ∨ c = .tick (.age i x)) :
    exec c s = .next
      ((s.setTarget i { s.target i with records := (s.target i).records.put x (some r.count) }).timeOut i x) := by
  have counts : s.countAge i x =
      (s.setTarget i { s.target i with records := (s.target i).records.put x (some r.count) }).timeOut i x := by
    unfold State.countAge
    rw [hx]
    simp only [ho, ht, if_true]
  rcases hc with rfl | rfl
  · have due : s.timeoutDue i x = true := by simp [State.timeoutDue, hx, ho, ht]
    refine (happening_released (fun s => if s.timeoutDue i x then s.countAge i x else s) hr).trans ?_
    simp only [due, if_true, counts]
  · refine (happening_released (fun s => s.tickPart (.age i x)) hr).trans ?_
    simp only [State.tickPart, counts]

/-- The target port after a transaction has timed out there, and its count has risen. -/
theorem countTimeout_target {r : OutRecord} (hx : (s.target i).record x = some r) :
    ∃ ms, ((s.endTransaction i x .timeout []).countTimeout i).target i =
      { (s.target i).freeXid x with
        mirrors := ms, consecutive := min ((s.target i).consecutive + 1) Config.maxCount } := by
  obtain ⟨ms, h⟩ := State.endTransaction_target_self hx .timeout []
  exact ⟨ms, by simp [State.countTimeout, h, TargetPort.freeXid]⟩

theorem countTimeout_eq {r : OutRecord} (hx : (s.target i).record x = some r) :
    (s.endTransaction i x .timeout []).countTimeout i = (s.endTransaction i x .timeout []).setTarget i
      { (s.endTransaction i x .timeout []).target i with consecutive := min ((s.target i).consecutive + 1) 255 } := by
  obtain ⟨ms, h⟩ := State.endTransaction_target_self hx .timeout []
  unfold State.countTimeout
  rw [h]
  rfl

/-- Settles O9: the end, the count, and then the fault, the end of the drain, or nothing. -/
theorem timeoutEndsTheTransaction : Obligations.TimeoutEndsTheTransaction := by
  unfold Obligations.TimeoutEndsTheTransaction
  intro s i x r c hr hx ho h0 hle hc
  have ht : r.timesOut (s.target i).timeout = true := by
    simpa [OutRecord.timesOut, OutRecord.count, h0, Config.maxCount] using hle
  obtain ⟨counted, hcounted⟩ : ∃ u, u = (s.endTransaction i x .timeout []).countTimeout i := ⟨_, rfl⟩
  have hstep : exec c s = .next ((if (counted.target i).thresholdReached then counted.faultByThreshold i
      else counted.finishDrain i).redecideAfterFalls s) := by
    rw [exec_timeOut hr hx ho ht hc]
    unfold State.timeOut State.endByTimeout
    rw [endTransaction_counted hx, ← hcounted]
    exact congrArg _ (State.redecideAfterFalls_congr rfl)
  have hlinks : s.SameLinks counted :=
    hcounted ▸ (State.SameLinks.endTransaction s i x .timeout []).trans (.of_ports (by simp))
  obtain ⟨ms, hp⟩ := countTimeout_target hx
  rw [← hcounted] at hp
  have hout := TargetPort.outstanding_freeXid hx
  have hreached : (counted.target i).thresholdReached = true ↔ (s.target i).state = .online ∧ (s.target i).threshold ≠ 0 ∧
      (s.target i).threshold ≤ min ((s.target i).consecutive + 1) 255 := by
    simp only [TargetPort.thresholdReached, Bool.and_eq_true, decide_eq_true_eq, and_assoc]
    rw [hp]
    rfl
  have hstate : (counted.target i).state = (s.target i).state := by rw [hp]; rfl
  have hreq : (counted.target i).requesters = (s.target i).requesters := by rw [hp]; rfl
  have houts : (counted.target i).outstanding + 1 = (s.target i).outstanding := by rw [hp]; exact hout
  dsimp only
  rw [← countTimeout_eq hx, ← hcounted]
  refine ⟨fun h => ?_, fun hs hth => ?_, fun hs hn => ?_⟩
  · have hnot : ¬(counted.target i).thresholdReached = true := by
      rw [hreached]
      rintro ⟨hs, hth⟩
      rcases h with h | h | h | h
      · exact h.2 hth
      · rw [hs] at h; cases h.1
      · rw [hs] at h; cases h
      · rw [hs] at h; cases h
    rw [hstep, if_neg hnot, State.finishDrain_of_not]
    rw [hstate]
    rcases h with h | h | h | h
    · left; rw [h.1]; nofun
    · right; omega
    · left; rw [h]; nofun
    · left; rw [h]; nofun
  · rw [hstep, if_pos (hreached.mpr ⟨hs, hth⟩)]
    have examined : s.SameLinks ((counted.enterState i .faulted).reexamine i) :=
      (hlinks.trans (.of_ports (by simp))).trans (.reexamine _ i)
    unfold State.faultByThreshold
    dsimp only
    rw [examined.upMasters]
    rfl
  · have hnot : ¬(counted.target i).thresholdReached = true := by
      rw [hreached, hs]
      exact fun h => by cases h.1
    rw [hstep, if_neg hnot, State.finishDrain_of_drained (hstate.trans hs) (by omega), hreq]

/-! ### Fences (R110 to R113) -/

/-- The reply of a fence that has started. -/
theorem startFence_reply (s : State) (i : TargetId) (m : MasterId) {u : State} {st : TargetState} {n : Nat}
    (hu : s.enterFence i m = u) (hs : (u.target i).state = st) (hn : (u.target i).outstanding = n) :
    (s.startFence i m).fenceReply i .accepted = (u.redecideAfterFalls s, ⟨.accepted, [st.code, n]⟩) := by
  unfold State.startFence State.fenceReply
  rw [hu, (State.redecideAfterFalls_reply u s i).1, (State.redecideAfterFalls_reply u s i).2, hs, hn]

/-- FENCE_TARGET's effect on a target that is ONLINE or FAULTED. -/
theorem fenceEffect_starts {m : MasterId} {a : Args} (ht : argNat a 0 = i.val)
    (hs : (s.target i).state = .online ∨ (s.target i).state = .faulted) :
    fenceEffect s m a = (s.startFence i m).fenceReply i .accepted := by
  unfold fenceEffect
  rw [argFin_eq_some i ht]
  rcases hs with hs | hs
  · simp only [hs]
  · simp only [hs]

/-- Settles O24: the effect by the target's state, its outstanding count and its requesters, and the end of a drain. -/
theorem fenceTargetAndItsDrain : Obligations.FenceTargetAndItsDrain := by
  unfold Obligations.FenceTargetAndItsDrain
  intro s i
  refine ⟨fun m a h ht => ⟨fun hs hn => ?_, fun hs hn => ?_, fun hs hq => ?_, fun hs hq => ?_, fun hs => ?_⟩,
    fun hr => ⟨fun h => ?_, fun hs hn => ?_⟩⟩
  · refine exec_atBlock rfl h ?_
    rw [fenceEffect_starts ht hs]
    refine startFence_reply s i m (if_pos hn) (st := .fenced) ?_ ?_
    · simp [State.reexamine_target]
    · simpa [State.reexamine_target, TargetPort.outstanding, TargetPort.record] using hn
  · refine exec_atBlock rfl h ?_
    rw [fenceEffect_starts ht hs]
    refine startFence_reply s i m (st := .fencing) ?_ ?_ ?_
    · unfold State.enterFence
      rw [if_neg hn]
      simp [State.enterState, State.joinRequesters]
    · simp [State.reexamine_target]
    · simp [State.reexamine_target, TargetPort.outstanding, TargetPort.record]
  · refine exec_atBlock rfl h ?_
    simp [fenceEffect, argFin_eq_some i ht, hs, hq, State.fenceReply, State.joinRequesters, TargetState.code,
      TargetPort.outstanding, TargetPort.record]
  · refine exec_atBlock rfl h ?_
    simp [fenceEffect, argFin_eq_some i ht, hs, hq, State.fenceReply, TargetState.code]
  · refine exec_atBlock rfl h ?_
    simp [fenceEffect, argFin_eq_some i ht, hs, State.fenceReply, TargetState.code]
  · refine (happening_released (fun s => s.finishDrain i) hr).trans ?_
    rw [State.finishDrain_of_not h]
  · refine (happening_released (fun s => s.finishDrain i) hr).trans ?_
    rw [State.finishDrain_of_drained hs hn]

/-! ### Answers (R87, R92, R113) -/

/-- What fits a record: an OK with the read's data, an OK without data for a write, an ERROR without data (R87). -/
theorem answerFits_iff (f : AnswerFrame) (r : OutRecord) :
    answerFits f r = true ↔ (f.status = .ok ∧ r.kind = .read ∧ f.data.length = r.length) ∨
      (f.data = [] ∧ (f.status = .error ∨ r.kind = .write)) := by
  unfold answerFits
  cases f.status with
  | error => simp
  | ok => cases r.kind <;> simp

theorem exec_targetCompletion (hr : s.rstN = .released) (hl : (s.target i).link = .up) (f : AnswerFrame) :
    exec (.targetCompletion i f) s = .next (s.takeAnswer i f) := by
  refine (happening_released (fun s => if (s.target i).link = .up then s.takeAnswer i f else s) hr).trans ?_
  simp only [hl, if_true]

/-- What an answer notes of its target: an OK, that the consecutive count is 0 again (R87). -/
theorem noteAnswer_eq (s : State) (i : TargetId) (a : AnswerStatus) :
    s.noteAnswer i a = if a = .ok then s.setTarget i { s.target i with consecutive := 0 } else s := by
  cases a <;> rfl

theorem answerOutcome_eq (a : AnswerStatus) : answerOutcome a = if a = .ok then .ok else .targetError := by
  cases a <;> rfl

/-- The target port after the transaction of an answer has ended there. -/
theorem endByAnswer_target {r : OutRecord} {f : AnswerFrame} (hx : (s.target i).record f.xid = some r) :
    ∃ c ms, ((s.noteAnswer i f.status).endTransaction i f.xid (answerOutcome f.status) f.data).target i =
      { (s.target i).freeXid f.xid with consecutive := c, mirrors := ms } := by
  have noted : ∃ c, (s.noteAnswer i f.status).target i = { s.target i with consecutive := c } := by
    unfold State.noteAnswer
    split
    · exact ⟨0, by simp⟩
    · exact ⟨_, rfl⟩
  obtain ⟨c, hn⟩ := noted
  have hx' : ((s.noteAnswer i f.status).target i).record f.xid = some r := by rw [hn]; exact hx
  obtain ⟨ms, h⟩ := State.endTransaction_target_self hx' (answerOutcome f.status) f.data
  exact ⟨c, ms, by rw [h, hn]; rfl⟩

/-- Settles O43: the end of a transaction by its record, and an answer by whether it fits. -/
theorem aCompletionEndsItsTransaction : Obligations.ACompletionEndsItsTransaction := by
  unfold Obligations.ACompletionEndsItsTransaction
  refine ⟨fun s i x o data => ⟨fun hx => ?_, fun r hx => ⟨fun ref hl => ?_, fun hl => ?_⟩⟩, fun s i f hr =>
    ⟨fun hl => ?_, fun hl hx => ?_, fun r hl hx => ⟨fun hf => ?_, fun hf hd => ?_, fun hf hs hn => ?_⟩⟩⟩
  · simp only [State.endTransaction, hx]
  · simp only [State.endTransaction, hx, hl]
    rfl
  · simp only [State.endTransaction, hx, hl]
    rfl
  · refine (happening_released (fun s => if (s.target i).link = .up then s.takeAnswer i f else s) hr).trans ?_
    simp only [hl, if_false]
  · rw [exec_targetCompletion hr hl, State.takeAnswer, hx]
    rfl
  · have hf : answerFits f r = false := by rwa [← answerFits_iff, Bool.not_eq_true] at hf
    rw [exec_targetCompletion hr hl, State.takeAnswer, hx]
    simp only [hf]
    rfl
  · obtain ⟨c, ms, hp⟩ := endByAnswer_target hx
    have hout := TargetPort.outstanding_freeXid hx
    rw [exec_targetCompletion hr hl, State.takeAnswer, hx]
    simp only [(answerFits_iff f r).mpr hf, if_true]
    unfold State.endByAnswer
    rw [State.finishDrain_of_not, noteAnswer_eq, answerOutcome_eq]
    rw [hp]
    refine hd.imp id fun hn => ?_
    show ((s.target i).freeXid f.xid).outstanding ≠ 0
    omega
  · obtain ⟨c, ms, hp⟩ := endByAnswer_target hx
    have hout := TargetPort.outstanding_freeXid hx
    rw [exec_targetCompletion hr hl, State.takeAnswer, hx]
    simp only [(answerFits_iff f r).mpr hf, if_true]
    unfold State.endByAnswer
    rw [State.finishDrain_of_drained (by rw [hp]; exact hs)
      (by rw [hp]; show ((s.target i).freeXid f.xid).outstanding = 0; omega),
      show (((s.noteAnswer i f.status).endTransaction i f.xid (answerOutcome f.status) f.data).target i).requesters =
        (s.target i).requesters by rw [hp]; rfl, noteAnswer_eq, answerOutcome_eq]

/-! ### A target link down (R94) -/

/-- A target port once the transactions of these xids have ended, in their order. -/
def TargetPort.freeAll (p : TargetPort) (l : List Xid) : TargetPort :=
  { p with
    records := l.foldl (fun t x => t.put x none) p.records
    freeList := p.freeList ++ l.filter fun x => (p.record x).isSome }

theorem get_foldl_put_none (l : List Xid) (t : Table 16 (Option OutRecord)) (y : Xid) :
    (l.foldl (fun t x => t.put x none) t).get y = if y ∈ l then none else t.get y := by
  induction l generalizing t with
  | nil => simp
  | cons x l ih =>
    rw [List.foldl_cons, ih, Table.get_put]
    by_cases e : x = y
    · simp [e]
    · simp [e, Ne.symm e]

/-- Ending one transaction and then the others. -/
theorem TargetPort.freeAll_cons (p : TargetPort) {l : List Xid} (hx : x ∉ l) :
    p.freeAll (x :: l) = (if p.record x ≠ none then p.freeXid x else p).freeAll l := by
  have others : (l.filter fun y => (((p.freeXid x).record y).isSome)) = l.filter fun y => (p.record y).isSome := by
    refine List.filter_congr fun y hy => ?_
    have : x ≠ y := fun e => hx (e ▸ hy)
    simp [TargetPort.record, TargetPort.freeXid, this]
  unfold TargetPort.freeAll
  cases h : p.record x with
  | none =>
    have : p.records.put x none = p.records := by
      rw [← show p.records.get x = none from h]
      exact Table.put_get_self p.records x
    simp [h, this]
  | some r =>
    rw [if_pos nofun, others]
    simp [h, TargetPort.freeXid]

/-- The ends of all the transactions of a target change nothing else of a target port but mirror records. -/
theorem State.foldl_endTransaction_target {l : List Xid} (hn : l.Nodup) (s : State) (i : TargetId) (o : EndOutcome)
    (j : TargetId) : ∃ ms, (l.foldl (fun s x => s.endTransaction i x o []) s).target j =
      { (if i = j then (s.target i).freeAll l else s.target j) with mirrors := ms } := by
  induction l generalizing s with
  | nil => exact ⟨(s.target j).mirrors, by split <;> simp [TargetPort.freeAll, *]⟩
  | cons x l ih =>
    obtain ⟨hx, hn⟩ := List.nodup_cons.mp hn
    obtain ⟨ms, hs⟩ := ih hn (s.endTransaction i x o [])
    refine ⟨ms, ?_⟩
    rw [List.foldl_cons, hs]
    by_cases e : i = j
    · subst e
      obtain ⟨ms', he⟩ := State.endTransaction_target s i x o [] i
      rw [if_pos rfl, if_pos rfl, he, TargetPort.freeAll_cons _ hx]
      by_cases hr : (s.target i).record x = none
      · rw [if_neg fun h => h.2 hr, if_neg fun h => h hr]; rfl
      · rw [if_pos ⟨rfl, hr⟩, if_pos hr]; rfl
    · obtain ⟨ms', he⟩ := State.endTransaction_target s i x o [] j
      rw [if_neg e, if_neg e, he, if_neg fun h => e h.1]

theorem State.loseAll_target (s : State) (i j : TargetId) :
    ∃ ms, (s.loseAll i).target j = { (if i = j then (s.target i).freeAll allXids else s.target j) with mirrors := ms } :=
  State.foldl_endTransaction_target (List.nodup_finRange 16) s i _ j

theorem State.SameLinks.loseAll (s : State) (i : TargetId) : s.SameLinks (s.loseAll i) :=
  .foldl (fun s x => .endTransaction s i x _ _) _ s

/-- What is left when a target's link has gone down and its waiting heads are re-examined: nobody waits, every record is gone and
every xid in use is free, and the links and all other blocks stand. -/
def State.examinedAfterLoss (s : State) (i : TargetId) : State := (((s.setLink i .down).loseAll i).enterState i .faulted).reexamine i

theorem State.examinedAfterLoss_target (s : State) (i j : TargetId) :
    ∃ ms, (s.examinedAfterLoss i).target j =
      { (if i = j then { (s.target i).freeAll allXids with link := .down, state := .faulted, waiting := MasterSet.empty }
          else s.target j) with mirrors := ms } := by
  obtain ⟨ms, h⟩ := State.loseAll_target (s.setLink i .down) i j
  refine ⟨ms, ?_⟩
  unfold State.examinedAfterLoss
  rw [State.reexamine_target]
  by_cases e : i = j
  · subst e
    simp only [if_true] at h ⊢
    simp only [State.enterState, State.setTarget_target, if_true, h]
    simp [State.setLink, TargetPort.freeAll, TargetPort.record]
  · simp only [if_neg e] at h ⊢
    simp only [State.enterState, State.setTarget_target, if_neg e, h]
    simp [State.setLink, e]

theorem State.SameLinks.examinedAfterLoss (s : State) (i : TargetId) : s.SameLinks (s.examinedAfterLoss i) := by
  have down : s.SameLinks (s.setLink i .down) := .of_ports (by simp)
  have lost := down.trans (.loseAll _ i)
  have entered : s.SameLinks (((s.setLink i .down).loseAll i).enterState i .faulted) := lost.trans (.of_ports (by simp))
  exact entered.trans (.reexamine _ i)

/-- Settles O45: the steps of the loss in their order, and what is left after them. -/
theorem targetLinkDownLosesEverything : Obligations.TargetLinkDownLosesEverything := by
  unfold Obligations.TargetLinkDownLosesEverything
  intro s i hr
  have step : exec (.targetLinkDown i) s = .next (if (s.target i).link = .up then s.linkDown i else s) :=
    happening_released (fun s => if (s.target i).link = .up then s.linkDown i else s) hr
  refine ⟨fun hl => by rw [step, if_neg hl], fun hl => ?_⟩
  rw [step, if_pos hl]
  intro down lost examined u
  have links := State.SameLinks.examinedAfterLoss s i
  have hu : u = (s.examinedAfterLoss i).postEach s.upMasters (.targetFaulted i .linkDown) := rfl
  clear_value u
  have step : s.linkLost i = if (s.target i).state = .fencing then u.tellRequesters i (.fenceDone i .faulted) else u := by
    rw [hu, ← links.upMasters]
    rfl
  have htargets (j : TargetId) : u.target j = (s.examinedAfterLoss i).target j := by rw [hu]; simp
  have hports (m : MasterId) : u.port m = (s.examinedAfterLoss i).port m := by rw [hu]; simp
  obtain ⟨ms, hi⟩ := State.examinedAfterLoss_target s i i
  rw [← htargets, if_pos rfl] at hi
  have hrequesters : (u.target i).requesters = (s.target i).requesters := by rw [hi]; rfl
  refine ⟨fun hs => ?_, fun hs => ?_, by rw [hi], by rw [hi], fun x => ?_, by rw [hi]; rfl, fun m => ?_, hrequesters,
    by rw [hi]; rfl, by rw [hi]; rfl, by rw [hi]; rfl, by rw [hi]; rfl, by rw [hi]; rfl, fun k hk => ?_, ?_⟩
  · unfold State.linkDown
    rw [step, if_neg hs]
  · unfold State.linkDown
    rw [step, if_pos hs]
    unfold State.tellRequesters
    rw [hrequesters]
    simp
  · rw [hi]
    show ((s.target i).freeAll allXids).records.get x = none
    simp [TargetPort.freeAll, get_foldl_put_none, mem_allXids]
  · rw [hi]
    exact MasterSet.get_empty m
  · obtain ⟨ms, hk'⟩ := State.examinedAfterLoss_target s i k
    rw [← htargets, if_neg (Ne.symm hk)] at hk'
    rw [hk']
  · rw [hu]
    unfold State.examinedAfterLoss
    refine ⟨by simp, by simp, by simp, by simp, by simp, by simp, by simp, by simp, by simp, fun m => ?_⟩
    obtain ⟨_, _, hm⟩ := links m
    unfold State.examinedAfterLoss at hm
    simp [hm]

end Sys2Proof.Machine
end

section
/-! Reset: device reset, the state after it, and that no command stops (O3, O60). -/

namespace Sys2Proof.Machine

-- One proof after the other, as in the tests: together they would take too many threads, and their stacks too much memory.
set_option Elab.async false

variable {s : State}

/-- Settles O3: the reset values, block by block. -/
theorem deviceResetSetsTheResetValues : Obligations.DeviceResetSetsTheResetValues := by
  unfold Obligations.DeviceResetSetsTheResetValues
  intro s
  refine ⟨{ State.reset with rstN := .asserted, pending := s.pending }, rfl, rfl, rfl, fun w => ?_, rfl, rfl, rfl, rfl, fun g => ?_,
    rfl, rfl, rfl, fun m => ?_, fun m => ?_, fun m => ?_, rfl⟩
  · simp [State.window, State.lease, State.reset]
  · have hx : allXids = [0, 1, 2, 3, 4, 5, 6, 7, 8, 9, 10, 11, 12, 13, 14, 15] := by decide
    simp [State.target, State.reset, TargetPort.resetPort, TargetPort.record, hx, Config.resetTimeout, Config.resetThreshold]
  · simp [State.slot, State.reset, Slot.idleSlot]
  · simp [State.unit, State.reset, NoticeUnit.resetUnit]
  · simp [State.port, State.reset, MasterPort.resetPort]

/-! ### The state after reset -/

@[simp] theorem reset_lease (w : WindowId) : State.reset.lease w = none := by simp [State.lease, State.reset]

@[simp] theorem reset_target (i : TargetId) : State.reset.target i = TargetPort.resetPort := by simp [State.target, State.reset]

@[simp] theorem reset_unit (m : MasterId) : State.reset.unit m = NoticeUnit.resetUnit := by simp [State.unit, State.reset]

@[simp] theorem reset_port (m : MasterId) : State.reset.port m = MasterPort.resetPort := by simp [State.port, State.reset]

@[simp] theorem resetPort_record (x : Xid) : TargetPort.resetPort.record x = none := by
  simp [TargetPort.record, TargetPort.resetPort]

theorem reset_leasesOk : State.reset.leasesOk := by
  have hc : State.reset.claims = [] := rfl
  exact ⟨by simp [hc], by simp [hc], by simp [hc], by simp⟩

theorem reset_targetsOk : State.reset.targetsOk := by
  intro i
  have ho : TargetPort.resetPort.outstanding = 0 := by simp [TargetPort.outstanding]
  rw [reset_target]
  refine ⟨?_, ?_⟩
  · refine ⟨fun h => absurd rfl h, fun _ m => MasterSet.get_empty m, nofun, nofun, nofun, fun _ => ⟨ho, .inl rfl⟩⟩
  · refine ⟨by decide, by decide, by decide, by decide, by simp⟩

theorem reset_tagsOk : State.reset.tagsOk := by
  refine ⟨reset_xidsOk .released [], fun m tag => ?_, by simp [MasterPort.resetPort], by simp, by simp [TargetPort.resetPort]⟩
  simp [State.queuedWith, State.outstandingWith, State.mirrorsWith, MasterPort.resetPort, TargetPort.resetPort, TagState.holders,
    TargetPort.record]

theorem reset_noticesOk : State.reset.noticesOk := by
  intro m
  rw [reset_unit]
  exact ⟨by decide, nofun, nofun, rfl, by decide, rfl, nofun⟩

theorem reset_settled : State.reset.settled := by
  refine ⟨⟨by simp, nofun⟩, fun i => by simp [State.targetSettled], rfl, fun i => ?_⟩
  simp [State.reset, TicksDue.none]

/-! ### No command stops -/

theorem exec_next (c : Instr) (s : State) : ∃ t : State, exec c s = .next t := by
  unfold exec
  cases c <;> exact ⟨_, rfl⟩

theorem step_next (s : State) : ∃ t : State, step s = .next t := by
  unfold step
  split
  · exact exec_next _ _
  · exact ⟨_, rfl⟩

/-- Settles O60: the reset values meet each property, and every command's happening has a next state. -/
theorem resetIsLegalAndNoCommandStops : Obligations.ResetIsLegalAndNoCommandStops := by
  unfold Obligations.ResetIsLegalAndNoCommandStops
  exact ⟨⟨reset_windowsOk .released [], reset_leasesOk, reset_xidsOk .released [], reset_targetsOk, reset_countsOk .released [],
    reset_tagsOk, reset_noticesOk, reset_portsOk .released [], reset_engineOk .released [], reset_settled⟩, exec_next, step_next⟩

end Sys2Proof.Machine
end

section
/-! Cleanups: the start of a port cleanup (O49). -/

namespace Sys2Proof.Machine

-- One proof after the other, as in the tests: together they would take too many threads, and their stacks too much memory.
set_option Elab.async false

variable {s t : State} {m : MasterId}

/-! ### The start of a cleanup (R157) -/

/-- A cleanup of a port whose queue holds no request bound to a window. -/
theorem takeOwnPart_unbound (h : ∀ r ∈ (s.port m).inbound, r.boundWindow = none) :
    s.takeOwnPart m = s.setPort m (s.port m).emptied.handedOver := by
  have hn : (s.port m).inbound.filterMap Request.boundWindow = [] := List.filterMap_eq_nil_iff.mpr h
  unfold State.takeOwnPart
  rw [hn]
  simp

/-- A cleanup of a port whose head alone is bound to a window. -/
theorem takeOwnPart_bound {r : Request} {rest : List Request} {w : WindowId} (hi : (s.port m).inbound = r :: rest)
    (hr : r.boundWindow = some w) (hn : ∀ k ∈ rest, k.boundWindow = none) :
    s.takeOwnPart m =
      ((s.setPort m (s.port m).emptied).countFalls w).setPort m (s.port m).emptied.handedOver := by
  have hw : (s.port m).inbound.filterMap Request.boundWindow = [w] := by
    rw [hi, List.filterMap_cons_some hr, List.filterMap_eq_nil_iff.mpr hn]
  unfold State.takeOwnPart
  rw [hw]
  simp

/-- The port that a reset frame or a drop leaves before its own part begins. -/
def MasterPort.afterLoss (p : MasterPort) (drops : Bool) : MasterPort :=
  if drops then { p with link := .down, trained := false } else p

/-- The start of a cleanup, by a port reset frame or a link drop. -/
theorem exec_cleanupStart {c : Instr} {drops : Bool} (hr : s.rstN = .released)
    (hc : drops = false ∧ c = .portReset m ∨ drops = true ∧ c = .linkDrop m) :
    ((s.port m).link = .up → (s.port m).cleanup = .clear →
      exec c s = .next (((s.setPort m ((s.port m).afterLoss drops)).takeOwnPart m).redecideAfterFalls s)) ∧
    ((s.port m).link = .down ∨ (s.port m).cleanup ≠ .clear →
      exec c s = .next (if drops then s.setPort m { s.port m with link := .down, trained := false } else s)) := by
  have held (h : (s.port m).link = .down ∨ (s.port m).cleanup ≠ .clear) :
      ¬((s.port m).link = .up ∧ (s.port m).cleanup = .clear) := by
    rintro ⟨hl, hc⟩
    rcases h with h | h
    · rw [hl] at h; cases h
    · exact h hc
  rcases hc with ⟨rfl, rfl⟩ | ⟨rfl, rfl⟩
  · have step : exec (.portReset m) s =
        .next (if (s.port m).link = .up ∧ (s.port m).cleanup = .clear then s.startCleanup m else s) :=
      happening_released (fun s => if (s.port m).link = .up ∧ (s.port m).cleanup = .clear then s.startCleanup m else s) hr
    refine ⟨fun hl hc => ?_, fun h => by rw [step, if_neg (held h)]; rfl⟩
    rw [step, if_pos ⟨hl, hc⟩, show (s.port m).afterLoss false = s.port m from rfl, State.setPort_port_self]
    rfl
  · have step : exec (.linkDrop m) s =
        .next (if (s.port m).link = .up ∧ (s.port m).cleanup = .clear then (s.lowerPort m).startCleanup m else s.lowerPort m) :=
      happening_released (fun s => if (s.port m).link = .up ∧ (s.port m).cleanup = .clear then (s.lowerPort m).startCleanup m
        else s.lowerPort m) hr
    refine ⟨fun hl hc => ?_, fun h => by rw [step, if_neg (held h)]; rfl⟩
    rw [step, if_pos ⟨hl, hc⟩]
    exact congrArg _ (State.redecideAfterFalls_congr rfl)

/-- Settles O49: the queue, the tags and the fall of the head's window, at a port as a reset frame or a drop leaves it. -/
theorem aCleanupStarts : Obligations.ACleanupStarts := by
  unfold Obligations.ACleanupStarts
  intro s m c drops hr hc
  obtain ⟨starts, held⟩ := exec_cleanupStart hr hc
  intro p q
  have hq : ((s.port m).afterLoss drops).emptied.handedOver = q := by cases drops <;> rfl
  have hi : ((s.port m).afterLoss drops).inbound = (s.port m).inbound := by cases drops <;> rfl
  obtain ⟨v, hv⟩ : ∃ v, v = s.setPort m ((s.port m).afterLoss drops) := ⟨_, rfl⟩
  have hvp : v.port m = (s.port m).afterLoss drops := by rw [hv]; simp
  rw [← hv] at starts
  refine ⟨fun hl hcl hn => ?_, fun r rest w hl hcl hi' hb hn => ?_, held⟩
  · rw [starts hl hcl, takeOwnPart_unbound (by rw [hvp, hi]; exact hn), hvp, hq, hv, State.setPort_setPort,
      redecideAfterFalls_of_windows (s := s) (t := s.setPort m q) rfl]
  · rw [starts hl hcl, takeOwnPart_bound (by rw [hvp, hi]; exact hi') hb hn, hvp, hq, hv, State.setPort_setPort]
    have he : ((s.port m).afterLoss drops).emptied =
        { p with link := q.link, trained := q.trained, inbound := [], generation := q.generation } := by cases drops <;> rfl
    rw [he]

end Sys2Proof.Machine
end

section
/-! Parts: the blocks' parts of a port cleanup (O50). -/

namespace Sys2Proof.Machine

-- One proof after the other, as in the tests: together they would take too many threads, and their stacks too much memory.
set_option Elab.async false

variable {s t u : State} {m : MasterId} {w w' : WindowId}

/-! ### The lease manager's part (R59, R74) -/

/-- The lease that a waiting claim becomes (R58). -/
def WaitingClaim.lease (c : WaitingClaim) : Lease := freshLease c.claimant c.kind c.duration c.warnAt

/-- The end of a lease on a window that nobody waits for. -/
theorem endLease_of_nil (h : s.queueOf w = []) : s.endLease w = s.setLease w none := by
  unfold State.endLease State.handOff
  have hq : (s.setLease w none).queueOf w = [] := by simpa using h
  rw [hq]
  split <;> simp_all

/-- The end of a lease on a window with a waiting claim. -/
theorem endLease_of_cons {k : WaitingClaim} {rest : List WaitingClaim} (h : s.queueOf w = k :: rest) :
    s.endLease w = ((s.setClaims (s.claims.eraseP fun d => decide (d.window = w))).setLease w (some k.lease)).post k.claimant
      (.granted w k.duration) := by
  unfold State.endLease State.handOff
  have hq : (s.setLease w none).queueOf w = k :: rest := by simpa using h
  have hl : (s.setLease w none).lease w = none := by simp
  rw [hq, hl]
  have : ((s.setLease w none).setClaims ((s.setLease w none).claims.eraseP fun d => decide (d.window = w))).setLease w
      (some k.lease) = (s.setClaims (s.claims.eraseP fun d => decide (d.window = w))).setLease w (some k.lease) :=
    State.setLease_setLease (s.setClaims (s.claims.eraseP fun d => decide (d.window = w))) w none (some k.lease)
  exact congrArg (fun u : State => u.post k.claimant (.granted w k.duration)) this

/-- Taking a master out of every reported set changes the leases alone. -/
def State.unreported (s : State) (m : MasterId) : State :=
  { s with leases := s.leases.each fun l => l.map fun l => { l with reported := l.reported.erase m } }

theorem State.unreported_claims (s : State) (m : MasterId) : (s.unreported m).claims = s.claims := by
  simp only [State.unreported]

theorem State.unreported_unit (s : State) (m k : MasterId) : (s.unreported m).unit k = s.unit k := by
  simp only [State.unreported, State.unit]

/-- Between the two states only leases, claims and notices differ. -/
def State.SameButLeases (s t : State) : Prop := t = { s with leases := t.leases, claims := t.claims, notices := t.notices }

theorem State.SameButLeases.trans (h : s.SameButLeases t) (h' : t.SameButLeases u) : s.SameButLeases u := by
  unfold State.SameButLeases at h h' ⊢
  rw [h', h]

theorem State.SameButLeases.withLeases (s : State) (l : Table 48 (Option Lease)) : s.SameButLeases { s with leases := l } := rfl

theorem State.SameButLeases.unreported (s : State) (m : MasterId) : s.SameButLeases (s.unreported m) := .withLeases s _

theorem State.SameButLeases.post (s : State) (k : MasterId) (b : NoticeBody) : s.SameButLeases (s.post k b) := by
  unfold State.SameButLeases State.post
  split <;> rfl

theorem State.SameButLeases.endLease (s : State) (w : WindowId) : s.SameButLeases (s.endLease w) := by
  cases h : s.queueOf w with
  | nil => rw [endLease_of_nil h]; rfl
  | cons k rest =>
    rw [endLease_of_cons h]
    exact State.SameButLeases.trans
      (t := (s.setClaims (s.claims.eraseP fun d => decide (d.window = w))).setLease w (some k.lease)) rfl (.post _ _ _)

theorem State.SameButLeases.dropLease (s : State) (m : MasterId) (w : WindowId) : s.SameButLeases (s.dropLease m w) := by
  unfold State.dropLease
  split
  · exact .endLease s w
  · rfl

/-- What an end of the master's lease on one window leaves of a lease. -/
theorem State.dropLease_lease (s : State) (m : MasterId) (w w' : WindowId) :
    (s.dropLease m w).lease w' =
      if w = w' ∧ s.holder w' = some m then (s.queueOf w').head?.map WaitingClaim.lease else s.lease w' := by
  unfold State.dropLease
  by_cases hw : w = w'
  · subst hw
    by_cases hh : s.holder w = some m
    · rw [if_pos hh, if_pos ⟨rfl, hh⟩]
      cases h : s.queueOf w with
      | nil => rw [endLease_of_nil h]; simp
      | cons k rest => rw [endLease_of_cons h]; simp
    · rw [if_neg hh, if_neg fun e : w = w ∧ s.holder w = some m => hh e.2]
  · rw [if_neg fun e : w = w' ∧ s.holder w' = some m => hw e.1]
    split
    · cases h : s.queueOf w with
      | nil => rw [endLease_of_nil h]; simp [hw]
      | cons k rest => rw [endLease_of_cons h]; simp [hw]
    · rfl

/-- Taking one element out does not change a selection that it is not in. -/
theorem filter_eraseP_of_disjoint {α : Type} {p q : α → Bool} (h : ∀ a, p a = true → q a = false) (l : List α) :
    (l.eraseP p).filter q = l.filter q := by
  induction l with
  | nil => rfl
  | cons a l ih =>
    cases hp : p a with
    | true => simp [hp, h a hp]
    | false => simp [hp, List.filter_cons, ih]

theorem State.dropLease_queueOf (s : State) (m : MasterId) (hw : w ≠ w') : (s.dropLease m w).queueOf w' = s.queueOf w' := by
  unfold State.dropLease
  split
  · cases h : s.queueOf w with
    | nil => rw [endLease_of_nil h]; simp
    | cons k rest =>
      rw [endLease_of_cons h]
      simp only [State.post_frame, State.queueOf]
      refine filter_eraseP_of_disjoint (fun c hc => ?_) s.claims
      simpa using fun e => hw ((by simpa using hc : c.window = w).symm.trans e)
  · rfl

theorem State.dropLease_claims (s : State) (m : MasterId) (w : WindowId) : ∀ c ∈ (s.dropLease m w).claims, c ∈ s.claims := by
  unfold State.dropLease
  split
  · cases h : s.queueOf w with
    | nil => rw [endLease_of_nil h]; simp
    | cons k rest =>
      rw [endLease_of_cons h]
      simpa using fun c hc => List.mem_of_mem_eraseP hc
  · exact fun _ => id

/-- The grants of a cleanup go to other masters. -/
theorem State.dropLease_unit {s : State} (h : ∀ c ∈ s.claims, c.claimant ≠ m) (w : WindowId) :
    (s.dropLease m w).unit m = s.unit m := by
  unfold State.dropLease
  split
  · cases hq : s.queueOf w with
    | nil => rw [endLease_of_nil hq]; simp
    | cons k rest =>
      have hk : k ∈ s.queueOf w := by rw [hq]; simp
      have hk : k.claimant ≠ m := h k (List.mem_of_mem_filter hk)
      rw [endLease_of_cons hq]
      unfold State.post
      split
      · simp [hk]
      · rfl
  · rfl

/-- The windows of a list in turn: those that the master holds go to their oldest claims. -/
theorem State.foldl_dropLease {l : List WindowId} (hn : l.Nodup) (s : State) (m : MasterId) (w : WindowId) :
    (l.foldl (fun s w => s.dropLease m w) s).lease w =
      if w ∈ l ∧ s.holder w = some m then (s.queueOf w).head?.map WaitingClaim.lease else s.lease w := by
  induction l generalizing s with
  | nil => simp
  | cons v l ih =>
    obtain ⟨hv, hn⟩ := List.nodup_cons.mp hn
    rw [List.foldl_cons, ih hn]
    by_cases e : v = w
    · subst e
      rw [if_neg fun h => hv h.1, State.dropLease_lease]
      simp
    · have hl : (s.dropLease m v).lease w = s.lease w := by rw [State.dropLease_lease, if_neg fun h => e h.1]
      rw [State.holder, hl, State.dropLease_queueOf s m e]
      simp [Ne.symm e, State.holder]

theorem State.foldl_dropLease_claims (l : List WindowId) (s : State) (m : MasterId) :
    ∀ c ∈ (l.foldl (fun s w => s.dropLease m w) s).claims, c ∈ s.claims :=
  foldl_invariant (fun t : State => ∀ c ∈ t.claims, c ∈ s.claims) _ (fun t w h c hc => h c (t.dropLease_claims m w c hc)) l s
    fun _ => id

theorem State.foldl_dropLease_unit (l : List WindowId) {s : State} (h : ∀ c ∈ s.claims, c.claimant ≠ m) :
    (l.foldl (fun s w => s.dropLease m w) s).unit m = s.unit m :=
  (foldl_invariant (fun t : State => (∀ c ∈ t.claims, c ∈ s.claims) ∧ t.unit m = s.unit m) _
    (fun t w ht => ⟨fun c hc => ht.1 c (t.dropLease_claims m w c hc),
      (State.dropLease_unit (fun c hc => h c (ht.1 c hc)) w).trans ht.2⟩) l s ⟨fun _ => id, rfl⟩).2

/-- The part after the master's claims are gone and its leases have ended, one window after the other (R59). -/
def State.leasesHanded (s : State) (m : MasterId) : State :=
  allWindows.foldl (fun s w => s.dropLease m w) (s.setClaims (s.claims.filter fun c => decide (c.claimant ≠ m)))

theorem cleanLeases_eq (s : State) (m : MasterId) : s.cleanLeases m = (s.leasesHanded m).unreported m := rfl

theorem leasesHanded_sameButLeases (s : State) (m : MasterId) : s.SameButLeases (s.leasesHanded m) := by
  unfold State.leasesHanded
  exact foldl_invariant (fun t : State => s.SameButLeases t) (fun s w => s.dropLease m w) (fun t w ht => ht.trans (.dropLease t m w))
    allWindows (s.setClaims (s.claims.filter fun c => decide (c.claimant ≠ m))) rfl

theorem leasesHanded_lease (s : State) (m : MasterId) (w : WindowId) :
    (s.leasesHanded m).lease w =
      if s.holder w = some m then ((s.queueOf w).find? fun k => decide (k.claimant ≠ m)).map WaitingClaim.lease
        else s.lease w := by
  have hq : ((s.setClaims (s.claims.filter fun c => decide (c.claimant ≠ m))).queueOf w).head? =
      (s.queueOf w).find? fun k => decide (k.claimant ≠ m) := by
    rw [← List.head?_filter]
    simp only [State.queueOf, State.setClaims_claims, List.filter_filter]
    congr 2
    funext c
    rw [Bool.and_comm]
  unfold State.leasesHanded
  rw [State.foldl_dropLease (l := allWindows) (List.nodup_finRange 48), hq]
  simp [mem_allWindows]

theorem leasesHanded_claims (s : State) (m : MasterId) :
    ∀ c ∈ (s.leasesHanded m).claims, c ∈ s.claims.filter fun c => decide (c.claimant ≠ m) := by
  unfold State.leasesHanded
  exact State.foldl_dropLease_claims allWindows _ m

theorem leasesHanded_unit (s : State) (m : MasterId) : (s.leasesHanded m).unit m = s.unit m := by
  unfold State.leasesHanded
  exact State.foldl_dropLease_unit (s := s.setClaims (s.claims.filter fun c => decide (c.claimant ≠ m))) allWindows (by simp)

theorem cleanLeases_sameButLeases (s : State) (m : MasterId) : s.SameButLeases (s.cleanLeases m) :=
  cleanLeases_eq s m ▸ (leasesHanded_sameButLeases s m).trans (.unreported _ m)

/-- Every claim left stood before, and is another master's. -/
theorem cleanLeases_claims (s : State) (m : MasterId) : ∀ c ∈ (s.cleanLeases m).claims, c ∈ s.claims ∧ c.claimant ≠ m := by
  intro c hc
  rw [cleanLeases_eq, State.unreported_claims] at hc
  simpa using leasesHanded_claims s m c hc

theorem cleanLeases_unit (s : State) (m : MasterId) : (s.cleanLeases m).unit m = s.unit m := by
  rw [cleanLeases_eq, State.unreported_unit, leasesHanded_unit]

/-- The leases after the lease manager's part: the master's go to the oldest claims of others, and it is marked nowhere. -/
theorem cleanLeases_lease (s : State) (m : MasterId) (w : WindowId) :
    (s.cleanLeases m).lease w =
      (if s.holder w = some m then ((s.queueOf w).find? fun k => decide (k.claimant ≠ m)).map WaitingClaim.lease
        else s.lease w).map fun l => { l with reported := l.reported.erase m } := by
  rw [← leasesHanded_lease, cleanLeases_eq]
  simp only [State.unreported, State.lease, Table.get_each]

/-- No lease left is the master's or has it in its reported set. -/
theorem cleanLeases_leavesNone {l : Lease} (h : (s.cleanLeases m).lease w = some l) : l.holder ≠ m ∧ l.reported.get m = false := by
  rw [cleanLeases_lease] at h
  obtain ⟨l', hl', rfl⟩ := Option.map_eq_some_iff.mp h
  refine ⟨?_, by simp⟩
  show l'.holder ≠ m
  by_cases hh : s.holder w = some m
  · rw [if_pos hh] at hl'
    obtain ⟨k, hk, rfl⟩ := Option.map_eq_some_iff.mp hl'
    show k.claimant ≠ m
    simpa using List.find?_some hk
  · rw [if_neg hh] at hl'
    exact fun e => hh (by rw [State.holder, hl', ← e]; rfl)

theorem cleanLeases_ofOther {l : Lease} (h : s.lease w = some l) (hm : l.holder ≠ m) :
    (s.cleanLeases m).lease w = some { l with reported := l.reported.erase m } := by
  rw [cleanLeases_lease, if_neg (by simpa [State.holder, h] using hm), h]
  rfl

theorem cleanLeases_ofMaster {l : Lease} (h : s.lease w = some l) (hm : l.holder = m) :
    (s.cleanLeases m).lease w = ((s.queueOf w).find? fun k => decide (k.claimant ≠ m)).map WaitingClaim.lease := by
  have he : MasterSet.empty.erase m = MasterSet.empty := Table.ext_get fun k => by simp
  rw [cleanLeases_lease, if_pos (by simp [State.holder, h, hm]), Option.map_map]
  congr 1
  funext k
  simp [WaitingClaim.lease, freshLease, he]

/-! ### Which block takes which command (R128, R135) -/

theorem targetOwner_iff (b : CleanupBlock) (v : Nat) :
    (∃ i, argFin 4 v = some i ∧ CleanupBlock.target i = b) ↔ ∃ i : TargetId, b = .target i ∧ v = i.val := by
  constructor
  · rintro ⟨i, hi, rfl⟩
    exact ⟨i, rfl, argFin_val hi⟩
  · rintro ⟨i, rfl, hv⟩
    exact ⟨i, argFin_eq_some i hv, rfl⟩

/-- The blocks that take a command. -/
theorem mem_owners (b : CleanupBlock) (c : Command) (a : Args) :
    b ∈ c.owners a ↔
      (b = .windows ∧ c ∈ ([.defineWindow, .setRoute, .setAccess, .enableWindow, .disableWindow, .retireWindow, .setDefault,
        .queryWindow] : List Command)) ∨
      (b = .leases ∧ c ∈ ([.claim, .renew, .release, .withdraw, .revoke, .retireWindow, .queryWindow] : List Command)) ∨
      ∃ t : TargetId, b = .target t ∧ argNat a 0 = t.val ∧
        c ∈ ([.setTarget, .queryTarget, .fenceTarget, .unfenceTarget] : List Command) := by
  cases c <;> simp [Command.owners, targetOwner_iff]

/-! ### The parts (R158) -/

/-- The port of a master once a block has left the cleanup's set. -/
def MasterPort.without (p : MasterPort) (left : List CleanupBlock) (b : CleanupBlock) : MasterPort :=
  if left.erase b = [] then { p with cleanup := .clear, link := if p.trained then .up else p.link }
  else { p with cleanup := .underWay (left.erase b) }

theorem comeUp_without {p : MasterPort} {left : List CleanupBlock} (h : p.cleanup = .underWay left) (b : CleanupBlock) :
    MasterPort.comeUp { p with cleanup := p.cleanup.without b } = p.without left b := by
  unfold MasterPort.without CleanupState.without
  rw [h]
  by_cases he : left.erase b = []
  · cases p.trained <;> simp [he, MasterPort.comeUp]
  · simp [he, MasterPort.comeUp]

/-- A part waits for the master's command delivered to the block. -/
theorem partDue_iff {left : List CleanupBlock} {b : CleanupBlock} (h : (s.port m).cleanup = .underWay left) (hb : b ∈ left) :
    s.partDue m b = true ↔ ∀ u, s.engine.underWay = some u → u.master = m → b ∉ u.command.owners u.args := by
  unfold State.partDue
  rw [h]
  cases s.engine.underWay with
  | none => simp [hb]
  | some u =>
    simp only [Option.some.injEq, forall_eq']
    simp [hb, imp_iff_not_or]

theorem takePart_due {left : List CleanupBlock} {b : CleanupBlock} {part : State → State}
    (h : (s.port m).cleanup = .underWay left) (hd : s.partDue m b = true) (hp : (part s).port m = s.port m) :
    s.takePart m b part = (part s).setPort m ((s.port m).without left b) := by
  unfold State.takePart State.partTaken
  rw [if_pos hd, hp, comeUp_without h]

theorem takePart_notDue {b : CleanupBlock} {part : State → State} (hd : ¬s.partDue m b = true) : s.takePart m b part = s :=
  if_neg hd

theorem exec_enginePart (hr : s.rstN = .released) (m : MasterId) :
    exec (.cleanupEnginePart m) s = .next (s.takePart m .engine fun s => s.cleanEngine m) :=
  happening_released (fun s => s.takePart m .engine fun s => s.cleanEngine m) hr

theorem exec_noticePart (hr : s.rstN = .released) (m : MasterId) :
    exec (.cleanupNoticePart m) s = .next (s.takePart m .notices fun s => s.cleanNotices m) :=
  happening_released (fun s => s.takePart m .notices fun s => s.cleanNotices m) hr

theorem exec_leasePart (hr : s.rstN = .released) (m : MasterId) :
    exec (.cleanupLeasePart m) s = .next (s.takePart m .leases fun s => s.cleanLeases m) :=
  happening_released (fun s => s.takePart m .leases fun s => s.cleanLeases m) hr

theorem exec_windowPart (hr : s.rstN = .released) (m : MasterId) :
    exec (.cleanupWindowPart m) s = .next (s.takePart m .windows fun s => s.cleanWindows m) :=
  happening_released (fun s => s.takePart m .windows fun s => s.cleanWindows m) hr

theorem exec_targetPart (hr : s.rstN = .released) (m : MasterId) (i : TargetId) :
    exec (.cleanupTargetPart m i) s = .next (s.takePart m (.target i) fun s => s.cleanTarget m i) :=
  happening_released (fun s => s.takePart m (.target i) fun s => s.cleanTarget m i) hr

theorem cleanEngine_eq (s : State) (m : MasterId) :
    s.cleanEngine m = { s with engine :=
      { setup := if s.engine.setup = .held m then .open else s.engine.setup
        slots := s.engine.slots.put m Slot.idleSlot
        lastServed := s.engine.lastServed
        underWay := s.engine.underWay.map fun u => { u with discard := u.discard || decide (u.master = m) } } } := by
  have hu : (fun u : UnderWay => u.cleanedFor m) = fun u => { u with discard := u.discard || decide (u.master = m) } := by
    funext u
    unfold UnderWay.cleanedFor
    by_cases h : u.master = m <;> simp [h]
  unfold State.cleanEngine
  rw [hu]
  rfl

/-- Settles O50: each part is taken once it is due, and what each does. -/
theorem everyBlockTakesItsPart : Obligations.EveryBlockTakesItsPart := by
  unfold Obligations.EveryBlockTakesItsPart
  intro s m b left hr hc hb
  refine ⟨mem_owners b, fun u hu hm ho => ?_, fun hn => ?_⟩
  · have hd : ¬s.partDue m b = true := fun e => (partDue_iff hc hb).mp e u hu hm ho
    refine ⟨?_, ?_, ?_, ?_, ?_⟩
    · rintro rfl; rw [exec_enginePart hr, takePart_notDue hd]
    · rintro rfl; rw [exec_noticePart hr, takePart_notDue hd]
    · rintro rfl; rw [exec_leasePart hr, takePart_notDue hd]
    · rintro rfl; rw [exec_windowPart hr, takePart_notDue hd]
    · rintro i rfl; rw [exec_targetPart hr, takePart_notDue hd]
  · have hd : s.partDue m b = true := (partDue_iff hc hb).mpr hn
    change let q := (s.port m).without left b; _
    intro q
    refine ⟨?_, ?_, ?_, ?_, ?_⟩
    · rintro rfl
      rw [exec_enginePart hr, takePart_due hc hd (by simp), cleanEngine_eq]
      rfl
    · rintro rfl
      rw [exec_noticePart hr, takePart_due hc hd (by simp)]
      rfl
    · rintro rfl
      rw [exec_windowPart hr, takePart_due hc hd (by simp)]
      rfl
    · rintro i rfl
      rw [exec_targetPart hr, takePart_due hc hd (by simp)]
      rfl
    · rintro rfl
      intro handed u
      have hh : handed = allWindows.foldl (fun s w => s.dropLease m w)
          (s.setClaims (s.claims.filter fun c => decide (c.claimant ≠ m))) := by
        refine congrArg (fun f => allWindows.foldl f _) (funext fun v => funext fun w => ?_)
        unfold State.dropLease
        split
        · cases hq : v.queueOf w with
          | nil => rw [endLease_of_nil hq]
          | cons k rest => rw [endLease_of_cons hq]; rfl
        · rfl
      have hu : u = s.cleanLeases m := by
        show handed.unreported m = _
        rw [hh]
        rfl
      clear_value u
      rw [hu, exec_leasePart hr, takePart_due hc hd (by simp)]
      exact ⟨rfl, cleanLeases_sameButLeases s m, cleanLeases_claims s m, fun w l => cleanLeases_leavesNone,
        fun w l => cleanLeases_ofOther, fun w l => cleanLeases_ofMaster, cleanLeases_unit s m⟩

end Sys2Proof.Machine
end

section
/-! Steering: the match and the lease check, and the decisions that complete a request at once (O34, O35). -/

namespace Sys2Proof.Machine

-- One proof after the other, as in the tests: together they would take too many threads, and their stacks too much memory.
set_option Elab.async false

variable {s : State} {m : MasterId} {w : WindowId} {r : Request}

/-! ### The match (R25) -/

/-- Of two candidates the match takes `w` over `v`: the higher tier, or the lower index at one tier. -/
def State.prefers (s : State) (w v : WindowId) : Prop :=
  (s.window v).tier < (s.window w).tier ∨ (s.window v).tier = (s.window w).tier ∧ w ≤ v

theorem State.prefers_refl (s : State) (w : WindowId) : s.prefers w w := .inr ⟨rfl, le_refl w⟩

theorem State.prefers.trans {u v : WindowId} (h : s.prefers u v) (h' : s.prefers v w) : s.prefers u w := by
  simp only [State.prefers, Fin.le_def] at *
  omega

theorem State.prefers.antisymm {v : WindowId} (h : s.prefers w v) (h' : s.prefers v w) : w = v := by
  simp only [State.prefers, Fin.le_def, Fin.ext_iff] at *
  omega

/-- The better of two candidates in rising index is one of them, and is preferred to both. -/
theorem betterMatch_prefers {b a : WindowId} (h : b < a) :
    ∃ c, s.betterMatch (some b) a = some c ∧ (c = b ∨ c = a) ∧ s.prefers c b ∧ s.prefers c a := by
  unfold State.betterMatch
  by_cases ht : (s.window b).tier < (s.window a).tier
  · exact ⟨a, if_pos ht, .inr rfl, .inl ht, s.prefers_refl a⟩
  · refine ⟨b, if_neg ht, .inl rfl, s.prefers_refl b, ?_⟩
    exact (Nat.lt_or_eq_of_le (Nat.le_of_not_lt ht)).imp_right fun he => ⟨he, h.le⟩

/-- Of candidates in rising index the fold keeps one that is preferred to all of them. -/
theorem foldl_betterMatch_prefers (l : List WindowId) (b : WindowId) (h : (b :: l).Pairwise (· < ·)) :
    ∃ w ∈ b :: l, l.foldl s.betterMatch (some b) = some w ∧ ∀ v ∈ b :: l, s.prefers w v := by
  induction l generalizing b with
  | nil => exact ⟨b, by simp, rfl, by simp [s.prefers_refl b]⟩
  | cons a l ih =>
    obtain ⟨hb, ha, hl⟩ : (∀ v ∈ a :: l, b < v) ∧ (∀ v ∈ l, a < v) ∧ l.Pairwise (· < ·) := by
      simpa only [List.pairwise_cons] using h
    obtain ⟨c, hc, hcab, cb, ca⟩ := betterMatch_prefers (s := s) (hb a (by simp))
    have above : ∀ v ∈ l, c < v := fun v hv => by
      rcases hcab with rfl | rfl
      · exact hb v (by simp [hv])
      · exact ha v hv
    obtain ⟨w, hw, he, best⟩ := ih c (List.pairwise_cons.mpr ⟨above, hl⟩)
    have wc : s.prefers w c := best c (by simp)
    refine ⟨w, ?_, by rw [List.foldl_cons, hc, he], fun v hv => ?_⟩
    · rcases List.mem_cons.mp hw with rfl | hw
      · rcases hcab with rfl | rfl <;> simp
      · simp [hw]
    · rcases List.mem_cons.mp hv with rfl | hv
      · exact wc.trans cb
      rcases List.mem_cons.mp hv with rfl | hv
      · exact wc.trans ca
      · exact best v (by simp [hv])

/-- Either no window is a candidate and there is no match, or the match is a candidate preferred to every other. -/
theorem matchWindow_cases (s : State) (address : Word) :
    (s.matchWindow address = none ∧ ∀ v, (s.window v).candidate address = false) ∨
    ∃ w, s.matchWindow address = some w ∧ (s.window w).candidate address = true ∧
      ∀ v, (s.window v).candidate address = true → s.prefers w v := by
  have mem (v : WindowId) : v ∈ (allWindows.filter fun v => (s.window v).candidate address) ↔
      (s.window v).candidate address = true := by simp [mem_allWindows]
  have rising : (allWindows.filter fun v => (s.window v).candidate address).Pairwise (· < ·) :=
    (List.pairwise_lt_finRange 48).filter _
  unfold State.matchWindow
  cases hl : allWindows.filter fun v => (s.window v).candidate address with
  | nil =>
    refine .inl ⟨rfl, fun v => ?_⟩
    have hv := mem v
    rw [hl] at hv
    simpa using hv
  | cons b l =>
    simp only [hl] at mem rising
    obtain ⟨w, hw, he, best⟩ := foldl_betterMatch_prefers (s := s) l b rising
    exact .inr ⟨w, he, (mem w).mp hw, fun v hv => best v ((mem v).mpr hv)⟩

theorem matchWindow_eq_none_iff (s : State) (address : Word) :
    s.matchWindow address = none ↔ ∀ v, (s.window v).candidate address = false := by
  rcases matchWindow_cases s address with ⟨hn, hc⟩ | ⟨w, hw, hc, -⟩
  · exact iff_of_true hn hc
  · exact iff_of_false (by simp [hw]) fun h => by simp [h w] at hc

theorem matchWindow_eq_some_iff (s : State) (address : Word) (w : WindowId) :
    s.matchWindow address = some w ↔
      (s.window w).candidate address = true ∧ ∀ v, (s.window v).candidate address = true → s.prefers w v := by
  rcases matchWindow_cases s address with ⟨hn, hc⟩ | ⟨u, hu, hc, best⟩
  · exact iff_of_false (by simp [hn]) fun h => by simp [hc w] at h
  · constructor
    · intro h
      obtain rfl : u = w := Option.some.inj (hu.symm.trans h)
      exact ⟨hc, best⟩
    · rintro ⟨hw, bestw⟩
      rw [hu, (best w hw).antisymm (bestw u hc)]

theorem candidate_iff (q : WindowRecord) (address : Word) :
    q.candidate address = true ↔
      q.state = .active ∧ q.base.toNat ≤ address.toNat ∧ address.toNat ≤ q.base.toNat + 2 ^ q.sizeLog2 - 1 := by
  have hpos : 0 < 2 ^ q.sizeLog2 := Nat.two_pow_pos _
  simp only [WindowRecord.candidate, Bool.and_eq_true, decide_eq_true_eq, and_assoc]
  refine and_congr_right fun _ => and_congr_right fun _ => ?_
  omega

/-! ### The lease check (R28) -/

theorem leaseCheck_holder {l : Lease} (h : s.lease w = some l) (hm : l.holder = m) (k : Kind) : s.leaseCheck m w k = none := by
  simp [State.leaseCheck, h, hm]

theorem leaseCheck_other {l : Lease} (h : s.lease w = some l) (hm : l.holder ≠ m) (k : Kind) :
    s.leaseCheck m w k = if l.kind = .sole ∨ k = .write then some .heldElsewhere else none := by
  simp only [State.leaseCheck, h, if_neg hm]
  cases l.kind <;> cases k <;> rfl

theorem leaseCheck_unheld (h : s.lease w = none) (m : MasterId) (k : Kind) :
    s.leaseCheck m w k = if (s.window w).policy = .holdToWrite ∧ k = .write then some .notHolder else none := by
  simp only [State.leaseCheck, h]
  cases (s.window w).policy <;> cases k <;> rfl

/-- Settles O34: the fold keeps the preferred candidate, and the lease check by who holds the window. -/
theorem theMatchAndTheLeaseCheck : Obligations.TheMatchAndTheLeaseCheck := by
  unfold Obligations.TheMatchAndTheLeaseCheck
  refine ⟨fun s address => ⟨matchWindow_eq_none_iff s address, matchWindow_eq_some_iff s address,
    fun w => candidate_iff (s.window w) address⟩, fun s m w k => ⟨?_, ?_, ?_, ?_, ?_⟩⟩
  · exact fun l hl hm => leaseCheck_holder hl hm k
  · intro l hl hm hk
    rw [leaseCheck_other hl hm, if_pos hk]
  · intro l hl hm hw hk
    rw [leaseCheck_other hl hm, if_neg (by simp [hw, hk])]
  · intro hl hp hk
    rw [leaseCheck_unheld hl, if_pos ⟨hp, hk⟩]
  · intro hl hp
    rw [leaseCheck_unheld hl, if_neg]
    rintro ⟨hp', rfl⟩
    exact hp.elim (fun h => h hp') nofun

/-! ### The decisions that complete at once (R24, R26 to R28, R30, R31, R35) -/

theorem steeringDecision_refuses {code : RefusalCode} (h : s.decides m r) (hd : s.decision m r = .refuse code) :
    exec (.steeringDecision m) s = .next (s.returned m ⟨r.tag, .refused, some code, []⟩) := by
  rw [steeringDecision_decides h, hd, State.carryOut, State.refuseHead, completeHead_returned]
  rfl

theorem decision_malformed (hp : inControlPage r.address = true) (h : r.length ≠ 4 ∨ r.address.toNat % 4 ≠ 0) :
    s.decision m r = .refuse .malformed := by
  have hf : ¬r.pageAccessOk = true := by
    simp only [Request.pageAccessOk, Bool.and_eq_true, decide_eq_true_eq]
    tauto
  rw [State.decision, if_pos hp, if_neg hf]

theorem decision_noRoute (hp : inControlPage r.address = false) (hm : s.matchWindow r.address = none)
    (hd : s.defaultRoute r.kind = .deny) : s.decision m r = .refuse .noRoute := by
  rw [decision_steered hp, State.steered, hm]
  simp only [State.defaultDecision, hd]

theorem decision_matched (hp : inControlPage r.address = false) (hm : s.matchWindow r.address = some w) :
    s.decision m r = s.windowDecision m w r := by
  rw [decision_steered hp, State.steered, hm]

theorem windowDecision_noAccess (h : ((s.window w).setFor r.kind).get m = false) :
    s.windowDecision m w r = .refuse .noAccess := by
  simp [State.windowDecision, h]

theorem windowDecision_notHolder (ha : ((s.window w).setFor r.kind).get m = true)
    (h : s.leaseCheck m w r.kind = some .notHolder) : s.windowDecision m w r = .refuse .notHolder := by
  simp [State.windowDecision, ha, h]

theorem windowDecision_heldElsewhere (ha : ((s.window w).setFor r.kind).get m = true)
    (h : s.leaseCheck m w r.kind = some .heldElsewhere) : s.windowDecision m w r = .heldElsewhere w := by
  simp [State.windowDecision, ha, h]

/-- A master already reported, or a window that does not report contention, leaves no contention mark. -/
theorem markContention_none {l : Lease} (hl : s.lease w = some l)
    (h : (s.window w).contention = false ∨ l.reported.get m = true) : s.markContention w m = s := by
  simp only [State.markContention, hl]
  exact if_neg (by rcases h with h | h <;> simp [h])

theorem markContention_reports {l : Lease} (hl : s.lease w = some l) (hc : (s.window w).contention = true)
    (hr : l.reported.get m = false) :
    s.markContention w m =
      (s.setLease w (some { l with reported := l.reported.insert m })).post l.holder (.contention w m) := by
  simp [State.markContention, hl, hc, hr]

theorem steeringDecision_heldElsewhere (h : s.decides m r) (hd : s.decision m r = .heldElsewhere w) :
    exec (.steeringDecision m) s =
      .next ((s.returned m ⟨r.tag, .refused, some .heldElsewhere, []⟩).markContention w m) := by
  rw [steeringDecision_decides h, hd, State.carryOut, State.refuseHead, completeHead_returned]
  rfl

theorem routeDecision_deny
    (h : r.kind = .read ∧ (s.window w).readRoute = .deny ∨ r.kind = .write ∧ (s.window w).writeRoute = .deny) :
    s.routeDecision m w r = .refuse .routeDeny := by
  rcases h with ⟨hk, hr⟩ | ⟨hk, hr⟩ <;> simp only [State.routeDecision, hk, hr]

/-- Settles O35: each clause is the decision of its step and what that decision does. -/
theorem decisionsThatCompleteAtOnce : Obligations.DecisionsThatCompleteAtOnce := by
  unfold Obligations.DecisionsThatCompleteAtOnce
  intro s m r h
  refine ⟨fun hp hl => steeringDecision_refuses h (decision_malformed hp hl),
    fun hp hm hd => steeringDecision_refuses h (decision_noRoute hp hm hd), fun w hp hm => ?_, fun w hw => ⟨?_, ?_, ?_, ?_⟩⟩
  · have matched : s.decision m r = s.windowDecision m w r := decision_matched hp hm
    refine ⟨fun ha => steeringDecision_refuses h (matched.trans (windowDecision_noAccess ha)), fun ha =>
      ⟨fun hn => steeringDecision_refuses h (matched.trans (windowDecision_notHolder ha hn)), fun l hl hc => ?_⟩⟩
    rw [steeringDecision_heldElsewhere h (matched.trans (windowDecision_heldElsewhere ha hc))]
    have hl : (s.returned m ⟨r.tag, .refused, some .heldElsewhere, []⟩).lease w = some l := hl
    exact ⟨fun hn => by rw [markContention_none hl hn], fun hc hr => by rw [markContention_reports hl hc hr]⟩
  · exact fun hk hr => steeringDecision_refuses h ((decision_reaches hw).trans (routeDecision_deny (.inl ⟨hk, hr⟩)))
  · exact fun hk hr => steeringDecision_refuses h ((decision_reaches hw).trans (routeDecision_deny (.inr ⟨hk, hr⟩)))
  · intro hk hr
    rw [steeringDecision_decides h, decision_reaches hw]
    simp only [State.routeDecision, hk, hr, State.carryOut, completeHead_returned]
  · intro hk hr
    rw [steeringDecision_decides h, decision_reaches hw]
    simp only [State.routeDecision, hk, hr, State.carryOut, completeHead_returned]

end Sys2Proof.Machine
end

section
/-! Steering: the binding of a mirror write, and the waiting heads re-examined (O26, O37). -/

namespace Sys2Proof.Machine

-- One proof after the other, as in the tests: together they would take too many threads, and their stacks too much memory.
set_option Elab.async false

variable {s : State} {m : MasterId} {w : WindowId} {r : Request} {rest : List Request}

/-! ### A mirror write (R34, R36, R99) -/

/-- The decision of a write that reaches a window's MIRROR route. -/
theorem decision_toMirror {t1 t2 : TargetId} {b1 b2 : Word} (h : s.reaches m r w) (hk : r.kind = .write)
    (hr : (s.window w).writeRoute = .mirror t1 b1 t2 b2) :
    s.decision m r = s.countLimited w (s.twoTargets (s.port m).generation w
      t1 (b1 + (r.address - (s.window w).base)) t2 (b2 + (r.address - (s.window w).base))) := by
  rw [decision_reaches h]
  simp only [State.routeDecision, hk, hr, translatedAddress]

section TwoTargets

variable {t1 t2 : TargetId} {g : Nat} {a1 a2 : Word}

theorem twoTargets_both (h1 : (s.target t1).state = .online) (h2 : (s.target t2).state = .online) :
    s.twoTargets g w t1 a1 t2 a2 = .bind ⟨g, some w, .mirror t1 a1 t2 a2 none⟩ := by
  simp [State.twoTargets, h1, h2]

theorem twoTargets_first (h1 : (s.target t1).state = .online) (h2 : (s.target t2).state ≠ .online) :
    s.twoTargets g w t1 a1 t2 a2 = .bind ⟨g, some w, .mirror t1 a1 t2 a2 (some .two)⟩ := by
  simp [State.twoTargets, h1, h2]

theorem twoTargets_second (h1 : (s.target t1).state ≠ .online) (h2 : (s.target t2).state = .online) :
    s.twoTargets g w t1 a1 t2 a2 = .bind ⟨g, some w, .mirror t1 a1 t2 a2 (some .one)⟩ := by
  simp [State.twoTargets, h1, h2]

theorem twoTargets_neither (h1 : (s.target t1).state ≠ .online) (h2 : (s.target t2).state ≠ .online) :
    s.twoTargets g w t1 a1 t2 a2 = .refuse (s.mirrorRefusal t1 t2) := by
  simp [State.twoTargets, h1, h2]

/-- With one of its targets ONLINE a mirror write is to be bound. -/
theorem twoTargets_binds (h : (s.target t1).state = .online ∨ (s.target t2).state = .online) :
    ∃ b, s.twoTargets g w t1 a1 t2 a2 = .bind b := by
  by_cases h1 : (s.target t1).state = .online
  · by_cases h2 : (s.target t2).state = .online
    · exact ⟨_, twoTargets_both h1 h2⟩
    · exact ⟨_, twoTargets_first h1 h2⟩
  · exact ⟨_, twoTargets_second h1 (h.resolve_left h1)⟩

end TwoTargets

/-- What the decision to bind a head to a route of a window does while the window's count is below the limit. -/
theorem steeringDecision_binds {g : Nat} {route : BoundRoute} (hi : (s.port m).inbound = r :: rest) (h : s.decides m r)
    (hd : s.decision m r = s.countLimited w (.bind ⟨g, some w, route⟩)) (hn : (s.window w).inFlight < 64) :
    exec (.steeringDecision m) s = .next (route.waitsAt.foldl (fun u t => u.startWaiting m t)
      ((s.withHead m { r with binding := .bound ⟨g, some w, route⟩ } rest).countRises w)) := by
  have hn : (s.window w).inFlight < Config.maxInFlight := hn
  rw [steeringDecision_decides h, hd]
  simp only [State.countLimited, if_pos hn, State.carryOut, State.bindHead, State.rebindHead, hi]
  rfl

/-- What the decision to bind a head does at the count limit. -/
theorem steeringDecision_holds {b : Binding} (hi : (s.port m).inbound = r :: rest) (h : s.decides m r)
    (hd : s.decision m r = s.countLimited w (.bind b)) (hn : 64 ≤ (s.window w).inFlight) :
    exec (.steeringDecision m) s = .next (s.withHead m { r with binding := .unbound true } rest) := by
  have hn : ¬(s.window w).inFlight < Config.maxInFlight := Nat.not_lt.mpr hn
  rw [steeringDecision_decides h, hd]
  simp only [State.countLimited, if_neg hn, State.carryOut, State.holdHead, hi]
  rfl

/-- Settles O37: the decision by the states of the two targets and by the window's count, and what a binding does. -/
theorem aMirrorWriteIsBoundByItsTargets : Obligations.AMirrorWriteIsBoundByItsTargets := by
  unfold Obligations.AMirrorWriteIsBoundByItsTargets
  intro s m r rest w t1 t2 b1 b2 hi h hk hr a1 a2 bound
  have decision := decision_toMirror h hk hr
  refine ⟨fun h1 h2 hn => ?_, fun h1 h2 hn => ?_, fun h1 h2 hn => ?_, fun ho hn => ?_, fun h1 h2 hf => ?_,
    fun h1 h2 hf1 hf2 => ?_⟩
  · rw [twoTargets_both h1 h2] at decision
    exact steeringDecision_binds hi h.1 decision hn
  · rw [twoTargets_first h1 h2] at decision
    exact steeringDecision_binds hi h.1 decision hn
  · rw [twoTargets_second h1 h2] at decision
    exact steeringDecision_binds hi h.1 decision hn
  · obtain ⟨b, hb⟩ := twoTargets_binds (w := w) (g := (s.port m).generation) (a1 := a1) (a2 := a2) ho
    exact steeringDecision_holds hi h.1 (decision.trans (congrArg _ hb)) hn
  · rw [twoTargets_neither h1 h2] at decision
    exact steeringDecision_refuses h.1 (decision.trans (congrArg Decision.refuse (if_pos hf)))
  · rw [twoTargets_neither h1 h2] at decision
    exact steeringDecision_refuses h.1 (decision.trans (congrArg Decision.refuse (if_neg (by simp [hf1, hf2]))))

/-! ### A waiting head re-examined (R38, R102, R103) -/

section Reexamined

variable {t : TargetId} {g : Nat} {window : Option WindowId}

theorem reexamineHead_single {a : Word} (hi : (s.port m).inbound = r :: rest)
    (hb : r.binding = .bound ⟨g, window, .single t a⟩) :
    s.reexamineHead t m =
      ((s.stopWaiting t m).returned m (refusal r.tag (s.target t).state.refusalCode)).bindingEnds window := by
  obtain ⟨tag, kind, address, length, data, binding⟩ := r
  obtain rfl : binding = _ := hb
  have same : ((s.stopWaiting t m).target t).state = (s.target t).state := by simp [State.stopWaiting]
  simp only [State.reexamineHead, State.head_of_inbound hi, if_pos, same, State.refuseHead, completeHead_returned]

/-- A two-leg mirror write loses its leg to a target that has left ONLINE. -/
theorem reexamineHead_twoLegs {t1 t2 : TargetId} {a1 a2 : Word} (hi : (s.port m).inbound = r :: rest)
    (hb : r.binding = .bound ⟨g, window, .mirror t1 a1 t2 a2 none⟩) (ht : t1 = t ∨ t2 = t) :
    s.reexamineHead t m =
      (s.stopWaiting t m).withHead m
        { r with binding := .bound ⟨g, window, .mirror t1 a1 t2 a2 (some (legAt t1 t))⟩ } rest := by
  obtain ⟨tag, kind, address, length, data, binding⟩ := r
  obtain rfl : binding = _ := hb
  have hi' : ((s.stopWaiting t m).port m).inbound = _ := hi
  simp only [State.reexamineHead, State.head_of_inbound hi, if_pos ht, State.rebindHead, hi']
  rfl

/-- A mirror write with one leg left is refused when that leg's target has left ONLINE. -/
theorem reexamineHead_skipped {t1 t2 : TargetId} {a1 a2 : Word} {k : LegNo} (hi : (s.port m).inbound = r :: rest)
    (hb : r.binding = .bound ⟨g, window, .mirror t1 a1 t2 a2 (some k)⟩) (ht : sentTarget t1 t2 k = t) :
    s.reexamineHead t m =
      ((s.stopWaiting t m).returned m (refusal r.tag (s.mirrorRefusal t1 t2))).bindingEnds window := by
  obtain ⟨tag, kind, address, length, data, binding⟩ := r
  obtain rfl : binding = _ := hb
  have same (i : TargetId) : ((s.stopWaiting t m).target i).state = (s.target i).state := by
    by_cases e : t = i <;> simp [State.stopWaiting, e]
  simp only [State.reexamineHead, State.head_of_inbound hi, if_pos ht, State.mirrorRefusal, same, State.refuseHead,
    completeHead_returned]

end Reexamined

/-- Settles O26: what becomes of a waiting head, by the shape of its binding. -/
theorem aWaitingHeadIsReexamined : Obligations.AWaitingHeadIsReexamined := by
  unfold Obligations.AWaitingHeadIsReexamined
  refine ⟨fun s t => rfl, fun s m t r rest g w hi => ⟨fun a hb => reexamineHead_single hi hb,
    fun t1 a1 t2 a2 hb ht => reexamineHead_twoLegs hi hb ht, fun t1 a1 t2 a2 k hb h1 h2 => reexamineHead_skipped hi hb ?_⟩⟩
  cases k with
  | one => exact h1 rfl
  | two => exact h2 rfl

end Sys2Proof.Machine
end

section
/-! The control page: the accesses without an effect, and the words that a read returns (O38). -/

namespace Sys2Proof.Machine

-- One proof after the other, as in the tests: together they would take too many threads, and their stacks too much memory.
set_option Elab.async false

variable {s : State} {m : MasterId} {r : Request}

/-! ### Accesses (R24, R131, R163) -/

theorem decision_pageAccess (hp : inControlPage r.address = true) (hl : r.length = 4) (ha : r.address.toNat % 4 = 0) :
    s.decision m r = .controlPage := by
  simp [State.decision, hp, Request.pageAccessOk, hl, ha]

/-- A read of any word but event port word 0 has no effect. -/
theorem pageAccess_plainRead (hk : r.kind = .read) (hw : r.pageWord ≠ .eventPort0) :
    s.pageAccess m r = s.returned m ⟨r.tag, .ok, none, wordBytes (s.pageRead m r.pageWord)⟩ := by
  simp only [State.pageAccess, hk, State.pageReadEffect, if_neg hw, completeHead_returned]

/-- The command word, the argument words and the notice mask are the words that a write changes. -/
theorem pageWrite_without_effect {p : PageWord} (hc : p ≠ .command) (hm : p ≠ .noticeMask) (ha : ∀ i, p ≠ .argument i)
    (v : Word) (tag : Tag) : s.pageWrite m p v tag = s := by
  cases p with
  | command => exact absurd rfl hc
  | noticeMask => exact absurd rfl hm
  | argument i => exact absurd rfl (ha i)
  | _ => rfl

theorem pageAccess_plainWrite (hk : r.kind = .write) (hc : r.pageWord ≠ .command) (hm : r.pageWord ≠ .noticeMask)
    (ha : ∀ i, r.pageWord ≠ .argument i) : s.pageAccess m r = s.returned m ⟨r.tag, .ok, none, []⟩ := by
  simp only [State.pageAccess, hk, pageWrite_without_effect hc hm ha, completeHead_returned]

/-- CONTROL_PAGE_WRITE takes the head that writes any word but the notice mask, as STEERING_DECISION does (log 14). -/
theorem controlPageWrite_decides (h : s.decides m r) (hp : inControlPage r.address = true) (hl : r.length = 4)
    (ha : r.address.toNat % 4 = 0) (hk : r.kind = .write) (hm : r.pageWord ≠ .noticeMask) :
    exec (.controlPageWrite m) s = exec (.steeringDecision m) s := by
  have due : s.duePageAccess m .write (fun w => decide (w ≠ .noticeMask)) = true := by
    simp [State.duePageAccess, h.2, hp, Request.pageAccessOk, hl, ha, hk, hm]
  rw [exec_steeringDecision h.1]
  refine (happening_released _ h.1).trans ?_
  rw [if_pos due]

/-! ### Codes (R164, R165) -/

theorem SlotState.code_table :
    ∀ p ∈ [(SlotState.idle, 0), (.pending, 1), (.executing, 2), (.done, 3)], p.1.code = p.2 := by decide

theorem Result.code_table :
    ∀ p ∈ ([.ok, .accepted, .granted, .queued, .already, .badCommand, .badField, .badIndex, .badState, .badGeometry,
      .slotInUse, .leased, .notSetup, .setupHeld, .setupClosed, .portDown, .held, .duplicate, .busyWindow, .queueFull,
      .notLeasable, .notHolder, .notHeld, .notWaiting, .ceiling, .linkDown] : List Result).zipIdx 1, p.1.code = p.2 := by decide

theorem PortLink.code_eq (l : PortLink) : l.code = if l = .up then 1 else 0 := by cases l <;> rfl

/-! ### The words read (R131, R143, R164 to R166) -/

theorem pageRead_command (s : State) (m : MasterId) :
    s.pageRead m .command = BitVec.ofNat 32 ((s.slot m).code.toNat + 2 ^ 8 * (s.slot m).state.code) := by
  simp only [State.pageRead, Slot.commandWord, Nat.shiftLeft_eq, Nat.mul_comm]

theorem pageRead_resultCode {c : Result} (h : (s.slot m).result = some c) :
    s.pageRead m .resultCode = BitVec.ofNat 32 c.code := by
  simp only [State.pageRead, Slot.resultCodeWord, h]

theorem pageRead_emptyView (h : (s.unit m).view = none) :
    s.pageRead m .eventPort0 = 0 ∧ s.pageRead m .eventPort1 = 0 ∧ s.pageRead m .eventPort2 = 0 ∧
      s.pageRead m .eventPort3 = 0 := by
  simp only [State.pageRead, viewWord0, viewWord1, viewWord2, viewWord3, h, and_self]

/-- The event port words show the fields of the notice in the latched view. -/
theorem pageRead_view {v : LatchedView} (h : (s.unit m).view = some v) :
    s.pageRead m .eventPort0 =
      BitVec.ofNat 32 (v.notice.body.kind.code + 2 ^ 8 * v.left + 2 ^ 16 * v.notice.seq.toNat) ∧
    s.pageRead m .eventPort1 = BitVec.ofNat 32
      (v.notice.body.windowField + 2 ^ 8 * v.notice.body.targetField + 2 ^ 16 * v.notice.body.masterField) ∧
    s.pageRead m .eventPort2 = BitVec.ofNat 32 v.notice.body.valueField ∧
    s.pageRead m .eventPort3 = BitVec.ofNat 32 v.notice.body.tagField := by
  simp only [State.pageRead, viewWord0, viewWord1, viewWord2, viewWord3, h, Nat.shiftLeft_eq, Nat.mul_comm, and_self]

/-- The field that shows a default route, when it is 0 for DENY and 1 with the target above it for TARGET. -/
theorem DefaultRoute.field_eq {field : DefaultRoute → Nat} (hd : field .deny = 0)
    (ht : ∀ t : TargetId, field (.target t) = 1 + 2 ^ 4 * t.val) (d : DefaultRoute) :
    field d = d.kindField + 2 ^ 4 * d.targetField := by
  cases d with
  | deny => exact hd
  | target t => exact ht t

theorem pageRead_defaultRoutes (s : State) (m : MasterId) :
    s.pageRead m .defaultRoutes = BitVec.ofNat 32 (s.defaultRead.kindField + 2 ^ 4 * s.defaultRead.targetField +
      2 ^ 8 * (s.defaultWrite.kindField + 2 ^ 4 * s.defaultWrite.targetField)) := by
  simp only [State.pageRead, defaultRoutesWord, Nat.shiftLeft_eq]
  congr 1
  omega

theorem pageRead_tickSettings (s : State) (m : MasterId) :
    s.pageRead m .tickSettings = BitVec.ofNat 32 (s.time.scale + 2 ^ 16 * s.time.divider) := by
  simp only [State.pageRead, TimeBase.settingsWord, Nat.shiftLeft_eq, Nat.mul_comm]

theorem pageRead_masterLinks (s : State) (m : MasterId) :
    s.pageRead m .masterLinks = BitVec.ofNat 32 ((s.port 0).link.code + 2 ^ 2 * (s.port 1).link.code +
      2 ^ 4 * (s.port 2).link.code + 2 ^ 6 * (s.port 3).link.code) := by
  simp only [State.pageRead, masterLinksWord, State.port, Nat.shiftLeft_eq, Nat.mul_comm]

/-- Settles O38: an access by its word's kind, and then each word that a read returns. -/
theorem plainControlPageAccesses : Obligations.PlainControlPageAccesses := by
  unfold Obligations.PlainControlPageAccesses
  refine ⟨fun s m r h hp hl ha => ?_, fun s m => ⟨?_, fun _ => rfl, fun _ => rfl, ?_, ?_, pageRead_emptyView, ?_, rfl, rfl,
    rfl, ?_, pageRead_tickSettings s m, ?_⟩⟩
  · have access : exec (.steeringDecision m) s = .next (s.pageAccess m r) := by
      rw [steeringDecision_decides h, decision_pageAccess hp hl ha]
      rfl
    refine ⟨fun hk hw => ?_, fun hk hw => ?_, fun hk hc hm hi => ?_⟩
    · rw [access, pageAccess_plainRead hk hw]
    · have zero : wordBytes (s.pageRead m .unnamed) = [0, 0, 0, 0] := by simp [State.pageRead, wordBytes]
      rw [access, pageAccess_plainRead hk (by rw [hw]; nofun), hw, zero]
    · rw [controlPageWrite_decides h hp hl ha hk hm, access, pageAccess_plainWrite hk hc hm hi]
      exact ⟨rfl, rfl⟩
  · intro n hn
    have code : (s.slot m).state.code = n := SlotState.code_table _ hn
    rw [pageRead_command, code]
  · intro hn
    simp only [State.pageRead, Slot.resultCodeWord, hn]
  · intro c n hc hn
    have code : c.code = n := Result.code_table _ hn
    rw [pageRead_resultCode hc, code]
  · intro v hv shows
    have words := pageRead_view hv
    obtain ⟨⟨seq, body⟩, left⟩ := v
    cases body with
    | claimLapsed w reason => cases reason <;> exact words
    | targetFaulted t cause => cases cause <;> exact words
    | protocolFault cause tag => cases cause <;> exact words
    | _ => exact words
  · intro field hd ht
    rw [pageRead_defaultRoutes, DefaultRoute.field_eq hd ht, DefaultRoute.field_eq hd ht]
  · intro field hf
    simp only [pageRead_masterLinks, hf, PortLink.code_eq]

end Sys2Proof.Machine
end

section
/-! The countdown of a waiting claim, and its lapse (O8). -/

namespace Sys2Proof.Machine

-- One proof after the other, as in the tests: together they would take too many threads, and their stacks too much memory.
set_option Elab.async false

/-! ### The countdown of a claim that stands alone in the pool for its window and claimant (R64, R68) -/

section CountedClaim

variable {s : State} {w : WindowId} {m : MasterId} {before after : List WaitingClaim} {c : WaitingClaim}

theorem WaitingClaim.isFor_own (c : WaitingClaim) : c.isFor c.window c.claimant = true := by simp [WaitingClaim.isFor]

theorem claimOf_split (hs : s.claims = before ++ c :: after) (hb : ∀ d ∈ before, d.isFor w m = false)
    (hc : c.isFor w m = true) : s.claimOf w m = some c :=
  List.find?_eq_some_iff_append.mpr ⟨hc, before, after, hs, fun d hd => by simp [hb d hd]⟩

theorem removeClaim_split (hs : s.claims = before ++ c :: after) (hb : ∀ d ∈ before, d.isFor w m = false)
    (hc : c.isFor w m = true) : s.removeClaim w m = s.setClaims (before ++ after) := by
  have erased : s.claims.eraseP (fun d => d.isFor w m) = before ++ after := by
    rw [hs, List.eraseP_append_right _ (by simpa using hb), List.eraseP_cons, hc, cond_true]
  rw [State.removeClaim, erased]

/-- A change of the claims of `m` for `w` reaches none of a list that holds no such claim. -/
theorem map_isFor_of_none {l : List WaitingClaim} (h : ∀ d ∈ l, d.isFor w m = false) (f : WaitingClaim → WaitingClaim) :
    l.map (fun d => if d.isFor w m then f d else d) = l :=
  (List.map_congr_left fun d hd => if_neg (by simp [h d hd])).trans l.map_id

/-- A countdown that does not reach 0 changes the claim in its place. -/
theorem countClaim_runs (hs : s.claims = before ++ c :: after) (hd : ∀ d ∈ before ++ after, d.isFor w m = false)
    (hc : c.isFor w m = true) (ho : c.owed = true) (hn : c.waitRemaining.map (· - 1) ≠ some 0) :
    s.countClaim w m =
      s.setClaims (before ++ { c with waitRemaining := c.waitRemaining.map (· - 1), owed := false } :: after) := by
  obtain ⟨hb, ha⟩ := List.forall_mem_append.mp hd
  have counted := claimOf_split hs hb hc
  simp only [State.countClaim, counted, ho, hn, if_true, if_false, hs, List.map_append, List.map_cons, hc,
    map_isFor_of_none hb, map_isFor_of_none ha]

/-- A countdown that reaches 0 is the lapse. -/
theorem countClaim_lapses (hs : s.claims = before ++ c :: after) (hb : ∀ d ∈ before, d.isFor w m = false)
    (hc : c.isFor w m = true) (ho : c.owed = true) (hz : c.waitRemaining.map (· - 1) = some 0) :
    s.countClaim w m = (s.setClaims (before ++ after)).post m (.claimLapsed w .waitLimit) := by
  simp only [State.countClaim, claimOf_split hs hb hc, ho, hz, if_true, removeClaim_split hs hb hc]

theorem lapseDue_split (hs : s.claims = before ++ c :: after) (hb : ∀ d ∈ before, d.isFor w m = false)
    (hc : c.isFor w m = true) (ho : c.owed = true) (hz : c.waitRemaining.map (· - 1) = some 0) : s.lapseDue w m = true := by
  simp [State.lapseDue, claimOf_split hs hb hc, ho, hz]

end CountedClaim

/-! ### The two rows that take the countdown (log 5) -/

theorem exec_tickClaim {s : State} (hr : s.rstN = .released) (w : WindowId) (m : MasterId) :
    exec (.tick (.claim w m)) s = .next (s.countClaim w m) :=
  happening_released (fun s => s.tickPart (.claim w m)) hr

theorem exec_claimLapsed_due {s : State} {w : WindowId} {m : MasterId} (hr : s.rstN = .released)
    (h : s.lapseDue w m = true) : exec (.claimLapsed w m) s = .next (s.countClaim w m) :=
  (happening_released (fun s => if s.lapseDue w m then s.countClaim w m else s) hr).trans
    (congrArg Host.Outcome.next (if_pos h))

/-- Settles O8: the claim counted is the only one in the pool for its window and claimant, and its wait limit alone
says whether the countdown leaves it there or is its lapse. -/
theorem claimCountdownAndLapse : Obligations.ClaimCountdownAndLapse := by
  unfold Obligations.ClaimCountdownAndLapse
  rintro s w m before after c hr hs hd rfl rfl ho
  have hc := c.isFor_own
  have hb := (List.forall_mem_append.mp hd).1
  rw [exec_tickClaim hr]
  refine ⟨fun unlimited => ?_, fun n hn left => ?_, fun last => ?_⟩
  · rw [countClaim_runs hs hd hc ho (by simp [unlimited]), unlimited]
    rfl
  · have more : n ≠ 0 := Nat.one_le_iff_ne_zero.mp hn
    rw [countClaim_runs hs hd hc ho (by simpa [left] using more), left]
    rfl
  · have zero : c.waitRemaining.map (· - 1) = some 0 := by rw [last]; rfl
    have lapse := countClaim_lapses hs hb hc ho zero
    exact ⟨by rw [lapse], by rw [exec_claimLapsed_due hr (lapseDue_split hs hb hc ho zero), lapse]⟩

end Sys2Proof.Machine
end

section
/-! Standing: every step keeps the state of every target port legal with its counts in range (O54). -/

namespace Sys2Proof.Machine

-- One proof after the other, as in the tests: together they would take too many threads, and their stacks too much memory.
set_option Elab.async false

variable {s t : State} {i : TargetId} {p : TargetPort}

/-! ### One target port -/

/-- What `State.targetsOk` asks of one target port. -/
abbrev TargetPort.Legal (p : TargetPort) : Prop := p.stateOk ∧ p.rangesOk

/-- What a target port keeps in the midst of a happening too: all that it has when it is legal, but that a FENCING target may
have drained already (R113). -/
structure TargetPort.Sound (p : TargetPort) : Prop where
  waiting : p.state ≠ .online → ∀ m, p.waiting.get m = false
  requesters : p.state ≠ .fencing → ∀ m, p.requesters.get m = false
  fenced : p.state = .fenced → p.outstanding = 0
  down : p.link = .down → p.outstanding = 0 ∧ (p.state = .fenced ∨ p.state = .faulted)
  training : p.link = .training → p.outstanding = 0 ∧ (p.state = .online ∨ p.state = .fenced)
  ranges : p.rangesOk

theorem TargetPort.Legal.sound (h : p.Legal) : p.Sound := by
  obtain ⟨⟨waiting, requesters, -, fenced, down, training⟩, ranges⟩ := h
  exact ⟨waiting, requesters, fenced, down, training, ranges⟩

theorem TargetPort.Sound.legal (h : p.Sound) (drains : p.state = .fencing → 0 < p.outstanding) : p.Legal :=
  ⟨⟨h.waiting, h.requesters, drains, h.fenced, h.down, h.training⟩, h.ranges⟩

theorem TargetPort.Legal.drains (h : p.Legal) (hs : p.state = .fencing) : 0 < p.outstanding := by
  obtain ⟨⟨-, -, fencing, -⟩, -⟩ := h
  exact fencing hs

theorem TargetPort.Sound.age_le (h : p.Sound) {x : Xid} {r : OutRecord} (hr : p.record x = some r) : r.age ≤ Config.maxCount := by
  obtain ⟨-, -, -, -, ages⟩ := h.ranges
  exact ages x r hr

theorem TargetPort.Legal.link_up (h : p.Legal) {x : Xid} {r : OutRecord} (hx : p.record x = some r) : p.link = .up := by
  have ho := TargetPort.outstanding_freeXid hx
  cases hl : p.link with
  | up => rfl
  | down => have := (h.sound.down hl).1; omega
  | training => have := (h.sound.training hl).1; omega

/-- The outstanding count is read off which xids have a record. -/
theorem TargetPort.outstanding_congr {q : TargetPort} (h : ∀ x, (q.record x).isSome = (p.record x).isSome) :
    q.outstanding = p.outstanding := by
  simp only [TargetPort.outstanding, h]

theorem TargetPort.outstanding_eq_zero (h : ∀ x, p.record x = none) : p.outstanding = 0 := by
  simp [TargetPort.outstanding, h]

/-- The waiting set changes: only an ONLINE target is waited for (R112). -/
theorem TargetPort.Legal.setWaiting (h : p.Legal) {w : MasterSet} (hw : p.state ≠ .online → ∀ m, w.get m = false) :
    { p with waiting := w }.Legal :=
  TargetPort.Sound.legal { h.sound with waiting := hw } h.drains

/-- The requester set changes: only a FENCING target has requesters (R110). -/
theorem TargetPort.Legal.setRequesters (h : p.Legal) {w : MasterSet} (hw : p.state ≠ .fencing → ∀ m, w.get m = false) :
    { p with requesters := w }.Legal :=
  TargetPort.Sound.legal { h.sound with requesters := hw } h.drains

/-- The records change in what they hold: the same xids are in use, and every age is in range (R89). -/
theorem TargetPort.Legal.setRecords (h : p.Legal) {rs : Table 16 (Option OutRecord)}
    (hs : ∀ x, (rs.get x).isSome = (p.record x).isSome) (ha : ∀ x, ∀ r ∈ rs.get x, r.age ≤ Config.maxCount) :
    { p with records := rs }.Legal := by
  obtain ⟨⟨waiting, requesters, fencing, fenced, down, training⟩, timeout, threshold, consecutive, strays, -⟩ := h
  have ho : { p with records := rs }.outstanding = p.outstanding := TargetPort.outstanding_congr hs
  rw [← ho] at fencing fenced down training
  exact ⟨⟨waiting, requesters, fencing, fenced, down, training⟩, timeout, threshold, consecutive, strays, ha⟩

/-- A transaction ends: one xid fewer is in use (R88). -/
theorem TargetPort.Sound.freeXid (h : p.Sound) {x : Xid} (hx : p.record x ≠ none) : (p.freeXid x).Sound := by
  obtain ⟨r, hr⟩ := Option.ne_none_iff_exists'.mp hx
  have ho := TargetPort.outstanding_freeXid hr
  obtain ⟨timeout, threshold, consecutive, strays, -⟩ := h.ranges
  refine ⟨h.waiting, h.requesters, fun hs => ?_, fun hl => ?_, fun hl => ?_, timeout, threshold, consecutive, strays,
    fun y q hq => ?_⟩
  · have := h.fenced hs; omega
  · have := (h.down hl).1; omega
  · have := (h.training hl).1; omega
  · simp only [TargetPort.record, TargetPort.freeXid, Table.get_put] at hq
    split at hq
    · cases hq
    · exact h.age_le hq

theorem TargetPort.Sound.setConsecutive (h : p.Sound) {n : Nat} (hn : n ≤ Config.maxCount) :
    { p with consecutive := n }.Sound := by
  obtain ⟨timeout, threshold, -, strays, ages⟩ := h.ranges
  exact { h with ranges := ⟨timeout, threshold, hn, strays, ages⟩ }

theorem TargetPort.Legal.setStrays (h : p.Legal) {n : Nat} (hn : n ≤ Config.maxCount) : { p with strays := n }.Legal := by
  obtain ⟨timeout, threshold, consecutive, -, ages⟩ := h.sound.ranges
  exact ⟨h.1, timeout, threshold, consecutive, hn, ages⟩

/-- SET_TARGET replaces the settings (R96). -/
theorem TargetPort.Legal.setSettings (h : p.Legal) {n k : Nat} (hn : n ≤ Config.maxTimeout) (hk : k ≤ Config.maxThreshold) :
    { p with timeout := n, threshold := k }.Legal := by
  obtain ⟨-, -, consecutive, strays, ages⟩ := h.sound.ranges
  exact ⟨h.1, hn, hk, consecutive, strays, ages⟩

/-- A link in TRAINING or DOWN comes UP, in any state (R80). -/
theorem TargetPort.Legal.linkUp (h : p.Legal) : { p with link := .up }.Legal :=
  TargetPort.Sound.legal { h.sound with down := nofun, training := nofun } h.drains

/-- A FENCING target that has drained is FENCED without requesters (R113). -/
theorem TargetPort.Sound.drained (h : p.Sound) (hs : p.state = .fencing) (ho : p.outstanding = 0) :
    { p with state := .fenced, requesters := MasterSet.empty }.Legal where
  left := ⟨fun _ => h.waiting (by rw [hs]; nofun), fun _ => MasterSet.get_empty, nofun, fun _ => ho,
    fun _ => ⟨ho, .inl rfl⟩, fun _ => ⟨ho, .inr rfl⟩⟩
  right := h.ranges

/-- An ONLINE target with its link UP becomes FAULTED, and nobody waits there (R91). -/
theorem TargetPort.Sound.faulted (h : p.Sound) (hs : p.state = .online) (hl : p.link = .up) :
    { p with state := .faulted, waiting := MasterSet.empty }.Legal where
  left := ⟨fun _ => MasterSet.get_empty, fun _ => h.requesters (by rw [hs]; nofun), nofun, nofun,
    fun hd => absurd (hl.symm.trans hd) nofun, fun ht => absurd (hl.symm.trans ht) nofun⟩
  right := h.ranges

/-- A target whose link goes DOWN is FAULTED with nothing outstanding, without waiting masters or requesters (R94). -/
theorem TargetPort.Legal.lost (h : p.Legal) (ms : List MirrorRecord) {w : MasterSet} (hw : ∀ m, w.get m = false) :
    { p.freeAll allXids with
      link := .down, state := .faulted, waiting := MasterSet.empty, requesters := w, mirrors := ms }.Legal := by
  obtain ⟨timeout, threshold, consecutive, strays, -⟩ := h.sound.ranges
  have noRecord (x : Xid) : (p.freeAll allXids).record x = none := by
    simp [TargetPort.freeAll, TargetPort.record, get_foldl_put_none, mem_allXids]
  refine ⟨⟨fun _ => MasterSet.get_empty, fun _ => hw, nofun, nofun, fun _ => ⟨?_, .inr rfl⟩, nofun⟩,
    timeout, threshold, consecutive, strays, fun x r hr => ?_⟩
  · exact TargetPort.outstanding_eq_zero noRecord
  · exact absurd ((noRecord x).symm.trans hr) nofun

/-- An ONLINE or FAULTED target enters a fence with nothing outstanding: it is FENCED at once (R111). -/
theorem TargetPort.Legal.fencedAtOnce (h : p.Legal) (hs : p.state = .online ∨ p.state = .faulted) (ho : p.outstanding = 0) :
    { p with state := .fenced, waiting := MasterSet.empty }.Legal where
  left := ⟨fun _ => MasterSet.get_empty, fun _ => h.sound.requesters (by rcases hs with hs | hs <;> rw [hs] <;> nofun), nofun,
    fun _ => ho, fun _ => ⟨ho, .inl rfl⟩, fun _ => ⟨ho, .inr rfl⟩⟩
  right := h.sound.ranges

/-- A target enters a fence with transactions outstanding, so that its link is UP: it is FENCING (R111). -/
theorem TargetPort.Legal.fences (h : p.Legal) (w : MasterSet) (ho : p.outstanding ≠ 0) :
    { p with state := .fencing, waiting := MasterSet.empty, requesters := w }.Legal where
  left := ⟨fun _ => MasterSet.get_empty, fun hs => absurd rfl hs, fun _ => Nat.pos_of_ne_zero ho, nofun,
    fun hl => absurd (h.sound.down hl).1 ho, fun hl => absurd (h.sound.training hl).1 ho⟩
  right := h.sound.ranges

/-- A target whose link is not DOWN and that has no requesters left returns to ONLINE (R116). -/
theorem TargetPort.Legal.restored (h : p.Legal) (hr : ∀ m, p.requesters.get m = false) (hl : p.link ≠ .down) :
    { p with state := .online, consecutive := 0 }.Legal where
  left := ⟨fun hs => absurd rfl hs, fun _ => hr, nofun, nofun, fun hd => absurd hd hl,
    fun ht => ⟨(h.sound.training ht).1, .inl rfl⟩⟩
  right := (h.sound.setConsecutive (Nat.zero_le _)).ranges

/-- The target is ONLINE with its link UP. -/
def TargetPort.Open (p : TargetPort) : Prop := p.state = .online ∧ p.link = .up

theorem canGrant_iff (p : TargetPort) : p.canGrant = true ↔ p.state = .online ∧ p.link = .up ∧ p.freeList ≠ [] := by
  simp [TargetPort.canGrant, and_assoc]

theorem TargetPort.open_of_canGrant (h : p.canGrant = true) : p.Open := by
  obtain ⟨online, up, -⟩ := (canGrant_iff p).mp h
  exact ⟨online, up⟩

/-- The grant of a new record at a target that is ONLINE with its link UP (R84, R85). -/
theorem TargetPort.Legal.granted (h : p.Legal) (hp : p.Open) (x : Xid) {o : OutRecord} (ha : o.age ≤ Config.maxCount)
    (m : MasterId) (held : List MirrorRecord) : (p.granted x o m held).Legal := by
  obtain ⟨hs, hl⟩ := hp
  obtain ⟨timeout, threshold, consecutive, strays, -⟩ := h.sound.ranges
  refine ⟨⟨fun hn => absurd hs hn, h.sound.requesters, fun hf => absurd (hs.symm.trans hf) nofun,
    fun hf => absurd (hs.symm.trans hf) nofun, fun hd => absurd (hl.symm.trans hd) nofun,
    fun ht => absurd (hl.symm.trans ht) nofun⟩, timeout, threshold, consecutive, strays, fun y q hq => ?_⟩
  simp only [TargetPort.record, TargetPort.granted, Table.get_put] at hq
  split at hq
  · cases hq; exact ha
  · exact h.sound.age_le hq

/-! ### One target port of the part changes -/

theorem State.targetsOk.of_targets (h : s.targetsOk) (hg : t.targets = s.targets) : t.targetsOk := fun j => by
  rw [show t.target j = s.target j by simp [State.target, hg]]
  exact h j

/-- Every target port is legal, but that target `i` may be FENCING and have drained. -/
abbrev State.targetsOkBut (s : State) (i : TargetId) : Prop := (s.target i).Sound ∧ ∀ j, i ≠ j → (s.target j).Legal

theorem State.targetsOk.sound (h : s.targetsOk) (i : TargetId) : (s.target i).Sound := TargetPort.Legal.sound (h i)

theorem State.targetsOk.but (h : s.targetsOk) (i : TargetId) : s.targetsOkBut i := ⟨h.sound i, fun j _ => h j⟩

/-- Where one target port is legal again and the others stand, every target port is legal. -/
theorem State.targetsOkBut.change (h : s.targetsOkBut i) (hp : (t.target i).Legal)
    (hg : ∀ j, i ≠ j → t.target j = s.target j) : t.targetsOk := fun j => by
  by_cases e : i = j
  · exact e ▸ hp
  · rw [hg j e]; exact h.2 j e

theorem State.targetsOkBut.setTarget (h : s.targetsOkBut i) (hp : p.Sound) : (s.setTarget i p).targetsOkBut i :=
  ⟨by simpa using hp, fun j e => by simpa [e] using h.2 j e⟩

theorem State.targetsOk.setTarget (h : s.targetsOk) (hp : p.Legal) : (s.setTarget i p).targetsOk :=
  (h.but i).change (by simpa using hp) fun j e => by simp [e]

/-! ### Steering decisions (R33, R34, R83) -/

theorem oneTarget_online {b b' : Binding} (h : s.oneTarget i b = .bind b') : (s.target i).state = .online := by
  unfold State.oneTarget at h
  split at h
  · assumption
  · cases h

/-- A mirror write's binding waits only at those of its targets that are ONLINE. -/
theorem twoTargets_online {g : Nat} {w : WindowId} {t1 t2 : TargetId} {a1 a2 : Word} {b : Binding}
    (h : s.twoTargets g w t1 a1 t2 a2 = .bind b) : ∀ i ∈ b.route.waitsAt, (s.target i).state = .online := by
  unfold State.twoTargets at h
  split at h
  · next h1 h2 => cases h; simpa [BoundRoute.waitsAt] using And.intro (of_decide_eq_true h1) (of_decide_eq_true h2)
  · next h1 _ => cases h; simpa [BoundRoute.waitsAt, sentTarget] using h1
  · next _ h2 => cases h; simpa [BoundRoute.waitsAt, sentTarget] using h2
  · cases h

theorem routeDecision_online {m : MasterId} {w : WindowId} {r : Request} {b : Binding} (h : s.routeDecision m w r = .bind b) :
    ∀ i ∈ b.route.waitsAt, (s.target i).state = .online := by
  have single {t : TargetId} {g : Nat} {a : Word}
      (h : s.countLimited w (s.oneTarget t ⟨g, some w, .single t a⟩) = .bind b) :
      ∀ i ∈ b.route.waitsAt, (s.target i).state = .online := by
    obtain ⟨hb, -⟩ := countLimited_bind h
    rw [oneTarget_bind hb]
    simpa [BoundRoute.waitsAt] using oneTarget_online hb
  unfold State.routeDecision at h
  dsimp only at h
  split at h
  · split at h
    · cases h
    · cases h
    · exact single h
  · split at h
    · cases h
    · cases h
    · exact single h
    · exact twoTargets_online (countLimited_bind h).1

/-- A request is bound only to wait at targets that are ONLINE. -/
theorem steered_online {m : MasterId} {r : Request} {b : Binding} (h : s.steered m r = .bind b) :
    ∀ i ∈ b.route.waitsAt, (s.target i).state = .online := by
  unfold State.steered at h
  split at h
  · unfold State.defaultDecision at h
    split at h
    · cases h
    · rw [oneTarget_bind h]
      simpa [BoundRoute.waitsAt] using oneTarget_online h
  · unfold State.windowDecision at h
    split at h
    · cases h
    · split at h
      · cases h
      · cases h
      · exact routeDecision_online h

theorem State.targetsOk.bindHead (h : s.targetsOk) (m : MasterId) {b : Binding}
    (hb : ∀ i ∈ b.route.waitsAt, (s.target i).state = .online) : (s.bindHead m b).targetsOk := fun j => by
  rw [State.bindHead_target]
  split
  · next hj => exact TargetPort.Legal.setWaiting (h j) fun hs => absurd (hb j hj) hs
  · exact h j

theorem State.targetsOk.carryOut (h : s.targetsOk) (m : MasterId) (r : Request) {d : Decision}
    (hd : ∀ b, d = .bind b → s.steered m r = .bind b) : (s.carryOut m r d).targetsOk := by
  cases d with
  | bind b => exact h.bindHead m (steered_online (hd b rfl))
  | controlPage => exact h.of_targets (by simp [State.carryOut])
  | refuse code => exact h.of_targets (by simp [State.carryOut])
  | heldElsewhere w => exact h.of_targets (by simp [State.carryOut])
  | fill => exact h.of_targets (by simp [State.carryOut])
  | discard => exact h.of_targets (by simp [State.carryOut])
  | waitAtLimit => exact h.of_targets (by simp [State.carryOut])

theorem State.targetsOk.decideHead (h : s.targetsOk) (m : MasterId) : (s.decideHead m).targetsOk := by
  unfold State.decideHead
  split
  · exact h.carryOut m _ fun b => steered_of_decision
  · exact h

theorem State.targetsOk.redecideHead (h : s.targetsOk) (m : MasterId) : (s.redecideHead m).targetsOk := by
  unfold State.redecideHead
  split
  · exact h.carryOut m _ fun b => id
  · exact h

theorem State.targetsOk.redecideHeads (h : s.targetsOk) : s.redecideHeads.targetsOk :=
  foldl_invariant State.targetsOk State.redecideHead (fun _ m hs => hs.redecideHead m) _ s h

theorem State.targetsOk.redecideAfterFalls (h : s.targetsOk) (before : State) : (s.redecideAfterFalls before).targetsOk := by
  unfold State.redecideAfterFalls
  split
  · exact h.redecideHeads
  · exact h

/-! ### The ends of transactions (R87 to R91, R113) -/

theorem State.targetsOkBut.endTransaction (h : s.targetsOkBut i) (x : Xid) (o : EndOutcome) (data : List Byte) :
    (s.endTransaction i x o data).targetsOkBut i := by
  refine ⟨?_, fun j e => ?_⟩
  · obtain ⟨ms, hp⟩ := State.endTransaction_target s i x o data i
    rw [hp]
    split
    · next hx => exact { h.1.freeXid hx.2 with }
    · exact { h.1 with }
  · obtain ⟨ms, hp⟩ := State.endTransaction_target s i x o data j
    rw [hp, if_neg fun hx => e hx.1]
    exact h.2 j e

/-- The end of a drain makes the target legal again (R113). -/
theorem State.targetsOkBut.finishDrain (h : s.targetsOkBut i) : (s.finishDrain i).targetsOk := by
  by_cases hd : (s.target i).state = .fencing ∧ (s.target i).outstanding = 0
  · rw [State.finishDrain_of_drained hd.1 hd.2]
    exact h.change (by simpa using h.1.drained hd.1 hd.2) fun j e => by simp [e]
  · rw [State.finishDrain_of_not (by tauto)]
    exact h.change (h.1.legal fun hs => Nat.pos_of_ne_zero fun ho => hd ⟨hs, ho⟩) fun j _ => rfl

theorem State.targetsOkBut.faultByThreshold (h : s.targetsOkBut i) (hs : (s.target i).state = .online)
    (hl : (s.target i).link = .up) : (s.faultByThreshold i).targetsOk := by
  have target (j : TargetId) : (s.faultByThreshold i).target j =
      if i = j then { s.target i with state := .faulted, waiting := MasterSet.empty } else s.target j := by
    by_cases e : i = j <;> simp [State.faultByThreshold, State.reexamine_target, State.enterState, e]
  refine h.change ?_ fun j e => by rw [target, if_neg e]
  rw [target, if_pos rfl]
  exact h.1.faulted hs hl

theorem State.targetsOk.endByTimeout (h : s.targetsOk) {x : Xid} {r : OutRecord} (hx : (s.target i).record x = some r) :
    (s.endByTimeout i x).targetsOk := by
  have counted : ((s.endTransaction i x .timeout []).countTimeout i).targetsOkBut i :=
    ((h.but i).endTransaction x .timeout []).setTarget
      (((h.but i).endTransaction x .timeout []).1.setConsecutive (Nat.min_le_right _ _))
  obtain ⟨ms, hp⟩ := countTimeout_target hx
  unfold State.endByTimeout
  dsimp only
  split
  · next hr =>
    simp only [TargetPort.thresholdReached, Bool.and_eq_true, decide_eq_true_eq] at hr
    obtain ⟨⟨online, -⟩, -⟩ := hr
    refine counted.faultByThreshold online ?_
    rw [hp]
    show (s.target i).link = .up
    exact TargetPort.Legal.link_up (h i) hx
  · exact counted.finishDrain

theorem State.targetsOk.countAge (h : s.targetsOk) (i : TargetId) (x : Xid) : (s.countAge i x).targetsOk := by
  unfold State.countAge
  split
  · exact h
  · next r hx =>
    split
    · have counted : (s.setTarget i { s.target i with records := (s.target i).records.put x (some r.count) }).targetsOk := by
        refine h.setTarget (TargetPort.Legal.setRecords (h i) (fun y => ?_) fun y q hq => ?_)
        · rw [Table.get_put]
          split
          · next e => rw [← e, hx]; rfl
          · rfl
        · rw [Table.get_put] at hq
          split at hq
          · cases hq; exact Nat.min_le_right _ _
          · exact (h.sound i).age_le hq
      dsimp only
      split
      · exact (counted.endByTimeout (r := r.count) (by simp [TargetPort.record])).redecideAfterFalls _
      · exact counted
    · exact h

theorem State.targetsOk.takeAnswer (h : s.targetsOk) (i : TargetId) (f : AnswerFrame) : (s.takeAnswer i f).targetsOk := by
  have stray : (s.countStray i).targetsOk := h.setTarget (TargetPort.Legal.setStrays (h i) (Nat.min_le_right _ _))
  have noted : (s.noteAnswer i f.status).targetsOkBut i := by
    unfold State.noteAnswer
    split
    · exact (h.but i).setTarget ((h.sound i).setConsecutive (Nat.zero_le _))
    · exact h.but i
  unfold State.takeAnswer
  split
  · exact stray
  · split
    · exact (noted.endTransaction f.xid _ f.data).finishDrain.redecideAfterFalls s
    · exact stray

/-! ### A target link down (R94) -/

theorem State.targetsOk.linkLost (h : s.targetsOk) (i : TargetId) : (s.linkLost i).targetsOk := by
  obtain ⟨told, ht⟩ : ∃ u, u = (s.examinedAfterLoss i).postEach (s.examinedAfterLoss i).upMasters
      (.targetFaulted i .linkDown) := ⟨_, rfl⟩
  have steps : s.linkLost i = if (s.target i).state = .fencing then told.tellRequesters i (.fenceDone i .faulted) else told := by
    rw [ht]; rfl
  have target (j : TargetId) : told.target j = (s.examinedAfterLoss i).target j := by rw [ht]; simp
  have others : ∀ j, i ≠ j → (told.target j).Legal := fun j e => by
    obtain ⟨ms, hp⟩ := State.examinedAfterLoss_target s i j
    rw [target, hp, if_neg e]
    exact h j
  obtain ⟨ms, hp⟩ := State.examinedAfterLoss_target s i i
  rw [← target, if_pos rfl] at hp
  rw [steps]
  intro j
  by_cases e : i = j
  · subst e
    split
    · simp only [State.tellRequesters, State.setTarget_target, if_true, (State.postEach_frame ..), hp]
      exact TargetPort.Legal.lost (h i) ms MasterSet.get_empty
    · next hs =>
      rw [hp]
      exact TargetPort.Legal.lost (h i) ms ((h.sound i).requesters hs)
  · split
    · simpa [State.tellRequesters, e] using others j e
    · exact others j e

/-! ### Fences (R110 to R116) -/

theorem State.targetsOk.enterFence (h : s.targetsOk) (hs : (s.target i).state = .online ∨ (s.target i).state = .faulted)
    (m : MasterId) : (s.enterFence i m).targetsOk := by
  unfold State.enterFence
  split
  · next ho =>
    refine (h.but i).change ?_ fun j e => by simp [State.reexamine_target, State.enterState, e]
    simpa [State.reexamine_target, State.enterState] using TargetPort.Legal.fencedAtOnce (h i) hs ho
  · next ho =>
    refine (h.but i).change ?_ fun j e => by simp [State.reexamine_target, State.enterState, State.joinRequesters, e]
    simpa [State.reexamine_target, State.enterState, State.joinRequesters] using TargetPort.Legal.fences (h i) _ ho

theorem State.targetsOk.fenceEffect (h : s.targetsOk) (m : MasterId) (a : Args) : (fenceEffect s m a).1.targetsOk := by
  unfold Sys2Proof.Machine.fenceEffect
  split
  · exact h
  · next i _ =>
    split
    · next hs => exact (h.enterFence (.inl hs) m).redecideAfterFalls s
    · next hs => exact (h.enterFence (.inr hs) m).redecideAfterFalls s
    · next hs =>
      split
      · exact h
      · exact h.setTarget (TargetPort.Legal.setRequesters (h i) fun hn => absurd hs hn)
    · exact h

theorem State.targetsOk.restore (h : s.targetsOk) (hr : ∀ m, (s.target i).requesters.get m = false)
    (hl : (s.target i).link ≠ .down) (left : TargetState) : (s.restore i left).targetsOk :=
  (h.setTarget (i := i) (TargetPort.Legal.restored (h i) hr hl)).of_targets (by simp [State.restore])

theorem State.targetsOk.tellRequesters (h : s.targetsOk) (i : TargetId) (b : NoticeBody) : (s.tellRequesters i b).targetsOk := by
  refine (h.but i).change ?_ fun j e => by simp [State.tellRequesters, e]
  simpa [State.tellRequesters] using TargetPort.Legal.setRequesters (h i) fun _ => MasterSet.get_empty

theorem State.targetsOk.unfenceEffect (h : s.targetsOk) (m : MasterId) (a : Args) : (unfenceEffect s m a).1.targetsOk := by
  unfold Sys2Proof.Machine.unfenceEffect
  split
  · exact h
  · next i _ =>
    have noRequesters := (h.sound i).requesters
    split
    · exact h
    · split
      · exact h
      · next hl =>
        exact (h.tellRequesters i _).restore (by simp [State.tellRequesters]) (by simpa [State.tellRequesters] using hl) _
    · next hs =>
      split
      · exact h
      · next hl => exact h.restore (noRequesters (by rw [hs]; nofun)) hl _
    · next hs =>
      split
      · next hl => exact h.restore (noRequesters (by rw [hs]; nofun)) (by rw [hl]; nofun) _
      · exact h

/-! ### Grants (R84, R85, R100) -/

theorem open_of_nextGrant {m : MasterId} (h : s.nextGrant i = some m) : (s.target i).Open := by
  unfold State.nextGrant at h
  split at h
  · next hc => exact TargetPort.open_of_canGrant hc
  · cases h

/-- A two-leg mirror write is granted only where both its targets are ONLINE with their links UP (R100). -/
theorem open_of_twoLegs {m : MasterId} {t1 t2 : TargetId} {a1 a2 : Word} (hn : s.nextGrant i = some m)
    (he : s.routeEligible i (.mirror t1 a1 t2 a2 none) = true) : (s.target t1).Open ∧ (s.target t2).Open := by
  have here := open_of_nextGrant hn
  simp only [State.routeEligible, otherTarget, Bool.and_eq_true, Bool.or_eq_true, decide_eq_true_eq] at he
  obtain ⟨hi, other⟩ := he
  have there := TargetPort.open_of_canGrant other
  by_cases e : t1 = i
  · rw [if_pos e] at there
    exact ⟨e ▸ here, there⟩
  · rw [if_neg e] at there
    exact ⟨there, hi.resolve_left e ▸ here⟩

theorem State.forward_open {j : TargetId} (h : (s.target j).Open) (i : TargetId) (x : Xid) (m : MasterId) (r : Request)
    (o : OutRecord) : ((s.forward i x m r o).target j).Open := by
  rw [State.forward_target]
  split
  · next e => exact e ▸ h
  · exact h

theorem State.targetsOk.forward (h : s.targetsOk) (hp : (s.target i).Open) (x : Xid) (m : MasterId) (r : Request)
    {o : OutRecord} (ha : o.age ≤ Config.maxCount) : (s.forward i x m r o).targetsOk := by
  refine (h.but i).change ?_ fun j e => by simp [State.forward_target, e]
  rw [State.forward_target, if_pos rfl]
  exact TargetPort.Legal.granted (h i) hp x ha m []

theorem State.targetsOk.holdMirror (h : s.targetsOk) (i : TargetId) (r : MirrorRecord) : (s.holdMirror i r).targetsOk :=
  h.setTarget (p := { s.target i with mirrors := (s.target i).mirrors ++ [r] }) (h i)

theorem State.targetsOk.leaveHead (h : s.targetsOk) (m : MasterId) : (s.leaveHead m).targetsOk := h.of_targets (by simp)

theorem newRecord_age (m : MasterId) (r : Request) (b : Binding) (a : Word) (leg : Option LegRef) :
    (newRecord m r b a leg).age ≤ Config.maxCount := Nat.zero_le _

theorem State.targetsOk.grantOne (h : s.targetsOk) (hp : (s.target i).Open) (x : Xid) (m : MasterId) (r : Request)
    (b : Binding) : (s.grantOne i x m r b).targetsOk := by
  have sent (a : Word) (leg : Option LegRef) : ((s.forward i x m r (newRecord m r b a leg)).leaveHead m).targetsOk :=
    (h.forward hp x m r (newRecord_age m r b a leg)).leaveHead m
  unfold State.grantOne
  split
  · exact sent _ none
  · dsimp only
    split
    · exact (sent _ _).holdMirror i _
    · exact sent _ _
  · exact h

theorem State.targetsOk.grantBoth (h : s.targetsOk) {m : MasterId} (r : Request) {b : Binding} (hn : s.nextGrant i = some m)
    (he : s.routeEligible i b.route = true) : (s.grantBoth m r b).targetsOk := by
  unfold State.grantBoth
  split
  · next t1 a1 t2 a2 hroute =>
    obtain ⟨open1, open2⟩ := open_of_twoLegs hn (hroute ▸ he)
    split
    · next x1 _ x2 _ _ _ =>
      have sent := ((h.forward open1 x1 m r (newRecord_age m r b a1 (some ⟨t1, .one⟩))).forward
        (State.forward_open open2 ..) x2 m r (newRecord_age m r b a2 (some ⟨t1, .two⟩))).leaveHead m
      dsimp only
      split
      · exact sent.holdMirror t1 _
      · exact sent
    · exact h
  · exact h

theorem State.targetsOk.xidGrant (h : s.targetsOk) (i : TargetId) : (s.xidGrant i).targetsOk := by
  unfold State.xidGrant
  split
  · exact h
  · next m hn =>
    split
    · split
      · exact h
      · exact h.grantOne (open_of_nextGrant hn) _ m _ _
    · exact h

theorem State.targetsOk.mirrorXidGrant (h : s.targetsOk) (i : TargetId) : (s.mirrorXidGrant i).targetsOk := by
  unfold State.mirrorXidGrant
  split
  · exact h
  · next m hn =>
    obtain ⟨r, b, hr, hb, he⟩ := nextGrant_eligible hn
    rw [hr, headBinding_of_head hr hb]
    dsimp only
    split
    · exact h.grantBoth r hn he
    · exact h

/-! ### Ticks, settings and cleanups -/

/-- The records of a port that owe a count are as they were but for that (R89). -/
theorem TargetPort.Legal.owing (h : p.Legal) : p.owing.Legal := by
  refine h.setRecords (fun x => ?_) fun x q hq => ?_
  · simp [TargetPort.record]
  · rw [Table.get_each] at hq
    obtain ⟨r, hr, rfl⟩ := Option.map_eq_some_iff.mp hq
    exact h.sound.age_le (r := r) hr

theorem State.targetsOk.oweAt (h : s.targetsOk) (b : TickBlock) : (s.oweAt b).targetsOk := by
  cases b with
  | leases => exact h.of_targets (by simp [State.oweAt])
  | target i => exact h.setTarget (TargetPort.Legal.owing (h i))

theorem State.targetsOk.takeOwedAt (h : s.targetsOk) (b : TickBlock) : (s.takeOwedAt b).targetsOk := by
  cases b with
  | leases => exact h.of_targets (by simp [State.takeOwedAt])
  | target i => exact foldl_invariant State.targetsOk (fun s x => s.countAge i x) (fun _ x hs => hs.countAge i x) _ s h

theorem State.targetsOk.tickArrives (h : s.targetsOk) (b : TickBlock) : (s.tickArrives b).targetsOk := by
  unfold State.tickArrives
  split
  · exact h
  · have arrived : ((s.takeOwedAt b).setTime
        { (s.takeOwedAt b).time with due := (s.takeOwedAt b).time.due.arrived b }).targetsOk := h.takeOwedAt b
    exact arrived.oweAt b

theorem State.targetsOk.tickPart (h : s.targetsOk) (part : TickPart) : (s.tickPart part).targetsOk := by
  cases part with
  | emit => exact h
  | arrive b => exact h.tickArrives b
  | lease w => exact h.of_targets (by simp [State.tickPart])
  | claim w m => exact h.of_targets (by simp [State.tickPart])
  | age i x => exact h.countAge i x

theorem State.targetsOk.setTargetEffect (h : s.targetsOk) (m : MasterId) (a : Args) : (setTargetEffect s m a).1.targetsOk := by
  unfold Sys2Proof.Machine.setTargetEffect
  split
  · exact h
  · next i _ =>
    split
    · exact h
    · next hr =>
      push Not at hr
      exact h.setTarget (TargetPort.Legal.setSettings (h i) hr.1 hr.2)

theorem State.targetsOk.queryTargetEffect (h : s.targetsOk) (m : MasterId) (a : Args) :
    (queryTargetEffect s m a).1.targetsOk := by
  unfold Sys2Proof.Machine.queryTargetEffect
  split
  · exact h
  · next i _ =>
    split
    · exact h
    · dsimp only
      split
      · exact h.setTarget (TargetPort.Legal.setStrays (h i) (Nat.zero_le _))
      · exact h

theorem State.targetsOk.cleanTarget (h : s.targetsOk) (m : MasterId) (i : TargetId) : (s.cleanTarget m i).targetsOk :=
  h.setTarget (TargetPort.Legal.setRequesters
    (TargetPort.Legal.setWaiting (h i) (w := (s.target i).waiting.erase m) fun hs k => by simp [(h.sound i).waiting hs k])
    (w := (s.target i).requesters.erase m) fun hs k => by simp [(h.sound i).requesters hs k])

theorem State.targetsOk.startCleanup (h : s.targetsOk) (m : MasterId) : (s.startCleanup m).targetsOk :=
  (h.of_targets (t := s.takeOwnPart m) (by simp)).redecideAfterFalls s

theorem State.targetsOk.takePart (h : s.targetsOk) (m : MasterId) (b : CleanupBlock) {part : State → State}
    (hp : (part s).targetsOk) : (s.takePart m b part).targetsOk := by
  unfold State.takePart
  split
  · exact hp.of_targets (by simp)
  · exact h

theorem State.targetsOk.takeDelivered (h : s.targetsOk) {k : Command} {effect : State → MasterId → Args → State × Reply}
    (he : ∀ m a, (effect s m a).1.targetsOk) : (s.takeDelivered k effect).targetsOk := by
  unfold State.takeDelivered
  split
  · split
    · next u _ _ => exact (he u.master u.args).of_targets (by simp)
    · exact h
  · exact h

theorem State.targetsOk.tableTaken {taken : State × Reply} (h : taken.1.targetsOk) : (tableTaken taken).1.targetsOk := by
  simpa only [Sys2Proof.Machine.tableTaken] using h.redecideHeads

/-! ### The commands that no target port takes -/

theorem defineWindowEffect_targets (s : State) (m : MasterId) (a : Args) : (defineWindowEffect s m a).1.targets = s.targets := by
  unfold defineWindowEffect
  (repeat' split) <;> rfl

theorem setRouteEffect_targets (s : State) (m : MasterId) (a : Args) : (setRouteEffect s m a).1.targets = s.targets := by
  unfold setRouteEffect
  (repeat' split) <;> rfl

theorem setAccessEffect_targets (s : State) (m : MasterId) (a : Args) : (setAccessEffect s m a).1.targets = s.targets := by
  unfold setAccessEffect
  (repeat' split) <;> rfl

theorem enableWindowEffect_targets (s : State) (m : MasterId) (a : Args) : (enableWindowEffect s m a).1.targets = s.targets := by
  unfold enableWindowEffect
  (repeat' split) <;> rfl

theorem disableWindowEffect_targets (s : State) (m : MasterId) (a : Args) : (disableWindowEffect s m a).1.targets = s.targets := by
  unfold disableWindowEffect
  (repeat' split) <;> rfl

theorem leaveTable_targets (s : State) (w : WindowId) (m : MasterId) : (s.leaveTable w m).1.targets = s.targets := by
  unfold State.leaveTable
  split <;> simp

theorem retireWindowEffect_targets (s : State) (m : MasterId) (a : Args) : (retireWindowEffect s m a).1.targets = s.targets := by
  unfold retireWindowEffect
  (repeat' split) <;> simp only [leaveTable_targets, forceOut_frame, refusedWith]

theorem setDefaultEffect_targets (s : State) (m : MasterId) (a : Args) : (setDefaultEffect s m a).1.targets = s.targets := by
  unfold setDefaultEffect
  split <;> rfl

theorem queryWindowEffect_targets (s : State) (m : MasterId) (a : Args) : (queryWindowEffect s m a).1.targets = s.targets := by
  unfold queryWindowEffect
  split <;> rfl

theorem claimEffect_targets (s : State) (m : MasterId) (a : Args) : (claimEffect s m a).1.targets = s.targets := by
  have queued (w : WindowId) (kind : LeaseKind) (d l n : Nat) : (s.joinQueue m w kind d l n).1.targets = s.targets := by
    unfold State.joinQueue
    (repeat' split) <;> rfl
  unfold claimEffect
  (repeat' split) <;> simp [refusedWith, queued]

theorem renewEffect_targets (s : State) (m : MasterId) (a : Args) : (renewEffect s m a).1.targets = s.targets := by
  unfold renewEffect
  (repeat' split) <;> rfl

theorem releaseEffect_targets (s : State) (m : MasterId) (a : Args) : (releaseEffect s m a).1.targets = s.targets := by
  unfold releaseEffect
  (repeat' split) <;> simp [refusedWith]

theorem withdrawEffect_targets (s : State) (m : MasterId) (a : Args) : (withdrawEffect s m a).1.targets = s.targets := by
  unfold withdrawEffect
  (repeat' split) <;> simp [refusedWith]

theorem revokeEffect_targets (s : State) (m : MasterId) (a : Args) : (revokeEffect s m a).1.targets = s.targets := by
  unfold revokeEffect
  (repeat' split) <;> simp [refusedWith]

theorem setTickEffect_targets (s : State) (m : MasterId) (a : Args) : (setTickEffect s m a).1.targets = s.targets := by
  unfold setTickEffect
  split <;> rfl

/-! ### Every step -/

theorem exec_targetsOk {c : Instr} (h : s.targetsOk) (he : exec c s = .next t) : t.targetsOk := by
  have happens {effect : State → State} (he : happening s effect = .next t) (hk : (effect s).targetsOk) : t.targetsOk := by
    unfold happening at he
    cases he
    split
    · exact hk
    · exact h
  have same {effect : State → State} (he : happening s effect = .next t) (hk : (effect s).targets = s.targets) : t.targetsOk :=
    happens he (h.of_targets hk)
  have onTable {k : Command} {effect : State → MasterId → Args → State × Reply}
      (he : happening s (fun s => s.takeDelivered k fun s m a => tableTaken (effect s m a)) = .next t)
      (hk : ∀ m a, (effect s m a).1.targets = s.targets) : t.targetsOk :=
    happens he (h.takeDelivered fun m a => .tableTaken (h.of_targets (hk m a)))
  have atLeases {k : Command} {effect : State → MasterId → Args → State × Reply}
      (he : happening s (fun s => s.takeDelivered k effect) = .next t) (hk : ∀ m a, (effect s m a).1.targets = s.targets) :
      t.targetsOk :=
    happens he (h.takeDelivered fun m a => h.of_targets (hk m a))
  have part {m : MasterId} {b : CleanupBlock} {effect : State → State}
      (he : happening s (fun s => s.takePart m b effect) = .next t) (hk : (effect s).targetsOk) : t.targetsOk :=
    happens he (h.takePart m b hk)
  unfold exec at he
  cases c with
  | deviceReset => cases he; exact reset_targetsOk
  | rstNRelease =>
    unfold execRstNRelease at he
    cases he
    split <;> exact h
  | tick part => exact happens he (h.tickPart part)
  | expired w => exact same he (by split <;> simp)
  | handoff w => exact same he (by simp)
  | claimLapsed w m => exact same he (by split <;> simp)
  | timeout i x => exact happens he (by split <;> [exact h.countAge i x; exact h])
  | requestFrame m f => exact same he (by split <;> simp)
  | portReset m => exact happens he (by split <;> [exact h.startCleanup m; exact h])
  | linkDrop m =>
    have lowered : (s.lowerPort m).targetsOk := h.of_targets (by simp)
    exact happens he (by split <;> [exact lowered.startCleanup m; exact lowered])
  | masterLinkTrains m => exact same he rfl
  | cleanupEnginePart m => exact part he (h.of_targets (by simp))
  | cleanupNoticePart m => exact part he (h.of_targets (by simp))
  | cleanupLeasePart m => exact part he (h.of_targets (by simp))
  | cleanupWindowPart m => exact part he (h.of_targets (by simp))
  | cleanupTargetPart m i => exact part he (h.cleanTarget m i)
  | steeringDecision m => exact happens he (h.decideHead m)
  | eventPortRead m => exact happens he (by split <;> [exact h.decideHead m; exact h])
  | noticeMaskWrite m => exact happens he (by split <;> [exact h.decideHead m; exact h])
  | controlPageWrite m => exact happens he (by split <;> [exact h.decideHead m; exact h])
  | commandTake => exact same he (by split <;> simp)
  | defineWindow => exact onTable he (defineWindowEffect_targets s)
  | setRoute => exact onTable he (setRouteEffect_targets s)
  | setAccess => exact onTable he (setAccessEffect_targets s)
  | enableWindow => exact onTable he (enableWindowEffect_targets s)
  | disableWindow => exact onTable he (disableWindowEffect_targets s)
  | retireWindow => exact onTable he (retireWindowEffect_targets s)
  | windowRetired w => exact same he (by simp)
  | setDefault => exact onTable he (setDefaultEffect_targets s)
  | queryWindow => exact onTable he (queryWindowEffect_targets s)
  | claim => exact atLeases he (claimEffect_targets s)
  | renew => exact atLeases he (renewEffect_targets s)
  | release => exact atLeases he (releaseEffect_targets s)
  | withdraw => exact atLeases he (withdrawEffect_targets s)
  | revoke => exact atLeases he (revokeEffect_targets s)
  | setTick => exact atLeases he (setTickEffect_targets s)
  | setTarget => exact happens he (h.takeDelivered h.setTargetEffect)
  | queryTarget => exact happens he (h.takeDelivered h.queryTargetEffect)
  | fenceTarget => exact happens he (h.takeDelivered h.fenceEffect)
  | unfenceTarget => exact happens he (h.takeDelivered h.unfenceEffect)
  | fenceDone i => exact happens he (h.but i).finishDrain
  | xidGrant i => exact happens he (h.xidGrant i)
  | mirrorXidGrant i => exact happens he (h.mirrorXidGrant i)
  | targetCompletion i f => exact happens he (by split <;> [exact h.takeAnswer i f; exact h])
  | targetLinkDown i => exact happens he (by split <;> [exact (h.linkLost i).redecideAfterFalls s; exact h])
  | targetLinkTrains i => exact happens he (h.setTarget (TargetPort.Legal.linkUp (h i)))

/-- Settles O54: every command, and every idle step, keeps each target port legal. -/
theorem everyStepKeepsTheTargetsLegal : Obligations.EveryStepKeepsTheTargetsLegal := by
  unfold Obligations.EveryStepKeepsTheTargetsLegal
  intro s t h hs
  unfold step at hs
  split at hs
  · next c rest _ => exact exec_targetsOk (s := { s with pending := rest }) h hs
  · unfold idle happening at hs
    cases hs
    split
    · dsimp only
      split
      · exact h.tickPart _
      · exact h.of_targets (by unfold State.refclk; split <;> rfl)
    · exact h

end Sys2Proof.Machine
end

section
/-! Grants: who an xid arbiter grants next, the grants of one target and of a two-leg mirror write, and the links that train
(O41, O42, O46). -/

namespace Sys2Proof.Machine

-- One proof after the other, as in the tests: together they would take too many threads, and their stacks too much memory.
set_option Elab.async false

variable {s : State} {i : TargetId} {m : MasterId} {r : Request} {rest : List Request}

/-! ### Who is granted next (R84, R100) -/

/-- The routes that may be granted an xid at a target: its one sent target is there, or one of its two and the other can grant
too (R84, R100). -/
theorem routeEligible_iff (s : State) (i : TargetId) (route : BoundRoute) :
    s.routeEligible i route = true ↔
      (∃ a, route = .single i a) ∨ (∃ t1 a1 a2, route = .mirror t1 a1 i a2 (some .one)) ∨
      (∃ a1 t2 a2, route = .mirror i a1 t2 a2 (some .two)) ∨
      (∃ a1 t2 a2, route = .mirror i a1 t2 a2 none ∧ (s.target t2).canGrant = true) ∨
      (∃ t1 a1 a2, t1 ≠ i ∧ route = .mirror t1 a1 i a2 none ∧ (s.target t1).canGrant = true) := by
  cases route with
  | single t a => simp [State.routeEligible]
  | mirror t1 a1 t2 a2 skipped =>
    cases skipped with
    | some k =>
      rw [show s.routeEligible i (.mirror t1 a1 t2 a2 (some k)) = true ↔ sentTarget t1 t2 k = i from decide_eq_true_iff]
      cases k <;> simp [sentTarget]
    | none =>
      by_cases e : t1 = i
      · simp [State.routeEligible, otherTarget, e]
      · simp [State.routeEligible, otherTarget, e]

theorem eligible_iff (s : State) (i : TargetId) (m : MasterId) :
    s.eligible i m = true ↔ (s.target i).waiting.get m = true ∧ ∃ r rest b, (s.port m).inbound = r :: rest ∧
      r.binding = .bound b ∧ s.routeEligible i b.route = true := by
  unfold State.eligible State.headBinding State.head
  rw [Bool.and_eq_true]
  refine and_congr_right fun _ => ?_
  cases (s.port m).inbound with
  | nil => simp
  | cons r rest => cases hb : r.binding <;> simp [hb]

theorem nextGrant_first (hc : (s.target i).canGrant = true) (he : s.eligible i m = true)
    (least : ∀ k, s.eligible i k = true →
      (m - (s.target i).lastServed - 1).val ≤ (k - (s.target i).lastServed - 1).val) : s.nextGrant i = some m := by
  unfold State.nextGrant
  rw [if_pos hc, find?_turnOrder _ m _ he least]

theorem nextGrant_none (h : ¬(s.target i).canGrant = true ∨ ∀ m, s.eligible i m = false) : s.nextGrant i = none := by
  unfold State.nextGrant
  split
  · next hc => exact List.find?_eq_none.mpr fun m _ => by simp [h.resolve_left (not_not.mpr hc) m]
  · rfl

/-! ### The two rows -/

theorem exec_xidGrant (hr : s.rstN = .released) (i : TargetId) : exec (.xidGrant i) s = .next (s.xidGrant i) :=
  happening_released (fun s => s.xidGrant i) hr

theorem exec_mirrorXidGrant (hr : s.rstN = .released) (i : TargetId) :
    exec (.mirrorXidGrant i) s = .next (s.mirrorXidGrant i) :=
  happening_released (fun s => s.mirrorXidGrant i) hr

theorem xidGrant_none (h : s.nextGrant i = none) : s.xidGrant i = s := by simp [State.xidGrant, h]

theorem mirrorXidGrant_none (h : s.nextGrant i = none) : s.mirrorXidGrant i = s := by simp [State.mirrorXidGrant, h]

section NextGrant
variable {b : Binding} {x : Xid} {free : List Xid} (hn : s.nextGrant i = some m) (hi : (s.port m).inbound = r :: rest)
  (hb : r.binding = .bound b)
include hn hi hb

/-- XID_GRANT grants a head with one target, and does nothing where the next is a two-leg mirror write. -/
theorem xidGrant_next (hf : (s.target i).freeList = x :: free) :
    s.xidGrant i = if b.route.twoLeg then s else s.grantOne i x m r b := by
  have hr := State.head_of_inbound hi
  simp only [State.xidGrant, hn, hr, headBinding_of_head hr hb, hf]

/-- MIRROR_XID_GRANT grants a two-leg mirror write, and does nothing where the next is a head with one target. -/
theorem mirrorXidGrant_next : s.mirrorXidGrant i = if b.route.twoLeg then s.grantBoth m r b else s := by
  have hr := State.head_of_inbound hi
  simp only [State.mirrorXidGrant, hn, hr, headBinding_of_head hr hb]

end NextGrant

/-! ### Forwarding, in the order of the state's tables (R85, R101) -/

theorem State.setTarget_setPort (s : State) (i : TargetId) (p : TargetPort) (m : MasterId) (q : MasterPort) :
    (s.setPort m q).setTarget i p = (s.setTarget i p).setPort m q := rfl

theorem State.setTarget_sendToTarget (s : State) (i j : TargetId) (p : TargetPort) (f : TargetFrame) :
    (s.sendToTarget j f).setTarget i p = (s.setTarget i p).sendToTarget j f := rfl

theorem State.setTarget_comm (s : State) {i j : TargetId} (h : i ≠ j) (p q : TargetPort) :
    (s.setTarget i p).setTarget j q = (s.setTarget j q).setTarget i p := by
  have hp : (s.targets.put i p).put j q = (s.targets.put j q).put i p := Table.ext_get fun k => by
    simp only [Table.get_put]
    split
    · next e => rw [if_neg fun e' => h (e'.trans e.symm)]
    · rfl
  unfold State.setTarget
  rw [hp]

/-- The head of a queue leaves it. -/
theorem leaveHead_of_inbound (hi : (s.port m).inbound = r :: rest) :
    s.leaveHead m = s.setPort m { s.port m with inbound := rest } := by
  unfold State.leaveHead
  rw [hi]
  rfl

theorem forward_granted (s : State) (i : TargetId) (x : Xid) (m : MasterId) (r : Request) (o : OutRecord) :
    s.forward i x m r o =
      (s.setTarget i ((s.target i).granted x o m [])).sendToTarget i ⟨x, r.kind, o.address, r.length, r.data⟩ := by
  simp [State.forward, TargetPort.granted]

theorem TargetPort.granted_of_freeList {p : TargetPort} {x : Xid} {free : List Xid} (hf : p.freeList = x :: free)
    (o : OutRecord) (m : MasterId) (held : List MirrorRecord) :
    p.granted x o m held = { p with
      freeList := free
      records := p.records.put x (some o)
      waiting := p.waiting.erase m
      lastServed := m
      mirrors := p.mirrors ++ held } := by
  simp [TargetPort.granted, hf]

/-- The mirror record of a grant is held at the port once the xid has been given (R101). -/
theorem TargetPort.granted_holds (p : TargetPort) (x : Xid) (o : OutRecord) (m : MasterId) (q : MirrorRecord) :
    { p.granted x o m [] with mirrors := (p.granted x o m []).mirrors ++ [q] } = p.granted x o m [q] := by
  simp [TargetPort.granted]

section Forwarded
variable (hi : (s.port m).inbound = r :: rest)
include hi

/-- A head with one target is forwarded there and leaves its queue (R85). -/
theorem forward_leaves (i : TargetId) (x : Xid) (o : OutRecord) :
    (s.forward i x m r o).leaveHead m =
      ((s.setTarget i ((s.target i).granted x o m [])).sendToTarget i ⟨x, r.kind, o.address, r.length, r.data⟩).setPort m
        { s.port m with inbound := rest } := by
  rw [leaveHead_of_inbound (rest := rest) (by simpa using hi), forward_granted]
  simp

/-- A skipped-leg mirror write is forwarded to its one sent target, which holds its mirror record (R101). -/
theorem grantOne_skipped (i : TargetId) (x : Xid) (g : Nat) (w : WindowId) (t1 t2 : TargetId) (a1 a2 : Word) (k : LegNo) :
    let b : Binding := ⟨g, some w, .mirror t1 a1 t2 a2 (some k)⟩
    s.grantOne i x m r b =
      ((s.setTarget i ((s.target i).granted x (newRecord m r b (sentAddress a1 a2 k) (some ⟨i, otherLeg k⟩)) m
        [skippedRecord m r.tag b w t1 t2 k x])).sendToTarget i
          ⟨x, r.kind, sentAddress a1 a2 k, r.length, r.data⟩).setPort m { s.port m with inbound := rest } := by
  intro b
  show ((s.forward i x m r (newRecord m r b (sentAddress a1 a2 k) (some ⟨i, otherLeg k⟩))).leaveHead m).holdMirror i _ = _
  rw [forward_leaves hi]
  unfold State.holdMirror
  rw [State.setTarget_setPort, State.setTarget_sendToTarget, State.setTarget_setTarget, ← TargetPort.granted_holds]
  simp [newRecord]

/-- A two-leg mirror write is forwarded to both its targets, and the primary holds its mirror record (R100, R101). -/
theorem grantBoth_twoLegs {x1 x2 : Xid} {free1 free2 : List Xid} {t1 t2 : TargetId} (hd : t1 ≠ t2)
    (hf1 : (s.target t1).freeList = x1 :: free1) (hf2 : (s.target t2).freeList = x2 :: free2) (g : Nat) (w : WindowId)
    (a1 a2 : Word) :
    let b : Binding := ⟨g, some w, .mirror t1 a1 t2 a2 none⟩
    s.grantBoth m r b =
      ((((s.setTarget t1 ((s.target t1).granted x1 (newRecord m r b a1 (some ⟨t1, .one⟩)) m
        [⟨m, r.tag, g, w, none, ⟨t1, some x1, .pending⟩, ⟨t2, some x2, .pending⟩⟩])).setTarget t2
          ((s.target t2).granted x2 (newRecord m r b a2 (some ⟨t1, .two⟩)) m [])).sendToTarget t1
            ⟨x1, r.kind, a1, r.length, r.data⟩).sendToTarget t2 ⟨x2, r.kind, a2, r.length, r.data⟩).setPort m
              { s.port m with inbound := rest } := by
  intro b
  obtain ⟨o1, ho1⟩ : ∃ o, o = newRecord m r b a1 (some ⟨t1, .one⟩) := ⟨_, rfl⟩
  obtain ⟨o2, ho2⟩ : ∃ o, o = newRecord m r b a2 (some ⟨t1, .two⟩) := ⟨_, rfl⟩
  have sent : s.grantBoth m r b = (((s.forward t1 x1 m r o1).forward t2 x2 m r o2).leaveHead m).holdMirror t1
      ⟨m, r.tag, g, w, none, ⟨t1, some x1, .pending⟩, ⟨t2, some x2, .pending⟩⟩ := by
    unfold State.grantBoth
    simp only [b, hf1, hf2, ho1, ho2]
  have first : (s.forward t1 x1 m r o1).target t2 = s.target t2 := by rw [State.forward_target, if_neg hd]
  rw [sent, forward_leaves (by simpa using hi), first, forward_granted]
  unfold State.holdMirror
  simp only [State.setTarget_setPort, State.setTarget_sendToTarget]
  rw [State.setTarget_comm _ hd.symm, State.setTarget_setTarget, ← ho1, ← ho2, ← TargetPort.granted_holds]
  simp [hd.symm, ho1, ho2, newRecord]

end Forwarded

/-- Settles O41: the next grant is the first in turn, and its head's record and frame take the head of the free list. -/
theorem xidGrantForwardsTheNextHead : Obligations.XidGrantForwardsTheNextHead := by
  unfold Obligations.XidGrantForwardsTheNextHead
  intro s i hr
  rw [exec_xidGrant hr, exec_mirrorXidGrant hr]
  refine ⟨fun h => ?_, fun m r rest g w a x free hs hl hf hi hb hw least => ?_⟩
  · have nobody : s.nextGrant i = none := nextGrant_none (by rw [canGrant_iff]; tauto)
    rw [xidGrant_none nobody, mirrorXidGrant_none nobody]
    exact ⟨rfl, rfl⟩
  · have granted : s.nextGrant i = some m :=
      nextGrant_first ((canGrant_iff _).mpr ⟨hs, hl, by simp [hf]⟩)
        ((eligible_iff s i m).mpr ⟨hw, r, rest, _, hi, hb, by simp [State.routeEligible]⟩) least
    rw [xidGrant_next granted hi hb hf, mirrorXidGrant_next granted hi hb]
    refine ⟨rfl, ?_⟩
    show Host.Outcome.next ((s.forward i x m r _).leaveHead m) = _
    rw [forward_leaves hi, TargetPort.granted_of_freeList hf, List.append_nil]
    rfl

/-- Settles O42: who is next by who is eligible, and each grant by the shape of its mirror write. -/
theorem mirrorGrantForwardsItsLegs : Obligations.MirrorGrantForwardsItsLegs := by
  unfold Obligations.MirrorGrantForwardsItsLegs
  refine ⟨fun s i => ?_, fun s m r rest g w t1 t2 a1 a2 hr hd hi => ⟨?_, ?_⟩⟩
  · simp only [← canGrant_iff, ← routeEligible_iff]
    exact ⟨eligible_iff s i, fun m hc he least => nextGrant_first hc he least, nextGrant_none⟩
  · intro i x1 x2 free1 free2 hb ht granted hf1 hf2
    obtain ⟨x, free, hf⟩ : ∃ x free, (s.target i).freeList = x :: free := by
      rcases ht with rfl | rfl
      · exact ⟨_, _, hf1⟩
      · exact ⟨_, _, hf2⟩
    rw [exec_xidGrant hr, exec_mirrorXidGrant hr, xidGrant_next granted hi hb hf, mirrorXidGrant_next granted hi hb]
    refine ⟨rfl, ?_⟩
    rw [if_pos (by rfl), grantBoth_twoLegs hi hd hf1 hf2, TargetPort.granted_of_freeList hf1, TargetPort.granted_of_freeList hf2,
      List.append_nil]
    rfl
  · intro k i skipped address x free leg1 leg2 hb granted hf hk
    rw [exec_xidGrant hr, xidGrant_next granted hi hb hf, if_neg nofun, grantOne_skipped hi, TargetPort.granted_of_freeList hf]
    rcases hk with ⟨rfl, rfl, rfl, rfl, rfl, rfl⟩ | ⟨rfl, rfl, rfl, rfl, rfl, rfl⟩
    · rfl
    · rfl

/-- Settles O46: each link by the port it belongs to. -/
theorem linksTrain : Obligations.LinksTrain := by
  unfold Obligations.LinksTrain
  intro s hr
  have trains (m : MasterId) : exec (.masterLinkTrains m) s =
      .next (s.setPort m (MasterPort.comeUp { s.port m with trained := true })) :=
    happening_released (fun s => s.setPort m (MasterPort.comeUp { s.port m with trained := true })) hr
  refine ⟨fun i => happening_released (fun s => s.setLink i .up) hr, fun m hc => ?_, fun m hc => ?_⟩
  · rw [trains, MasterPort.comeUp, if_pos ⟨rfl, hc⟩]
  · rw [trains, MasterPort.comeUp, if_neg fun h => hc h.2]

end Sys2Proof.Machine
end

section
/-! Mirrors: the end of a mirror write with its last sent leg (O44). -/

namespace Sys2Proof.Machine

-- One proof after the other, as in the tests: together they would take too many threads, and their stacks too much memory.
set_option Elab.async false

/-! ### The result of a mirror write (R105) -/

section Result

variable {r : MirrorRecord} {o e : EndOutcome} {cause : SplitCause}

/-- A write with a result has ended: no leg of it is outstanding. -/
theorem MirrorRecord.allEnded_of_result {result : CompletionStatus × Option (TargetId × SplitCause)}
    (h : r.result = some result) : r.allEnded = true := by
  have h1 : r.leg1.outcome ≠ .pending := fun e => by simp [MirrorRecord.result, e] at h
  have h2 : r.leg2.outcome ≠ .pending := fun e => by simp [MirrorRecord.result, e] at h
  simp [MirrorRecord.allEnded, h1, h2]

/-- Which leg is leg 1 makes no difference to the result of a write. -/
theorem MirrorRecord.result_swap (r : MirrorRecord) : { r with leg1 := r.leg2, leg2 := r.leg1 }.result = r.result := by
  obtain ⟨_, _, _, _, _, ⟨t1, x1, o1⟩, ⟨t2, x2, o2⟩⟩ := r
  cases o1 with
  | ended o =>
    cases o2 with
    | ended e => cases o <;> cases e <;> rfl
    | _ => cases o <;> rfl
  | _ =>
    cases o2 with
    | ended e => cases e <;> rfl
    | _ => rfl

theorem MirrorRecord.result_bothOk (h1 : r.leg1.outcome = .ended .ok) (h2 : r.leg2.outcome = .ended .ok) :
    r.result = some (.ok, none) := by
  simp only [MirrorRecord.result, h1, h2]

theorem MirrorRecord.result_oneFailed (h1 : r.leg1.outcome = .ended o) (hc : o.splitCause = some cause)
    (h2 : r.leg2.outcome = .ended .ok) : r.result = some (.degraded, some (r.leg1.target, cause)) := by
  have failed : o ≠ .ok := fun e => by simp [e, EndOutcome.splitCause] at hc
  simp [MirrorRecord.result, h1, h2, hc]

theorem MirrorRecord.result_bothFailed (h1 : r.leg1.outcome = .ended o) (h2 : r.leg2.outcome = .ended e) (ho : o ≠ .ok)
    (he : e ≠ .ok) : r.result = some (bothFailedStatus o e, none) := by
  simp [MirrorRecord.result, h1, h2, ho, he]

theorem MirrorRecord.result_okSkipped (h1 : r.leg1.outcome = .ended .ok) (h2 : r.leg2.outcome = .skipped) :
    r.result = some (.degraded, some (r.leg2.target, .skipped)) := by
  simp only [MirrorRecord.result, h1, h2]

theorem MirrorRecord.result_failedSkipped (h1 : r.leg1.outcome = .ended o) (h2 : r.leg2.outcome = .skipped) (ho : o ≠ .ok) :
    r.result = some (o.status, none) := by
  simp only [MirrorRecord.result, h1, h2]

end Result

/-! ### The last leg (R104 to R107) -/

/-- The leg of a mirror record that is not the one with the given number. -/
def MirrorRecord.otherLeg (r : MirrorRecord) : LegNo → MirrorLeg
  | .one => r.leg2
  | .two => r.leg1

/-- A mirror record with the end of the leg `x` at `t` as leg 1, and its other leg as leg 2. -/
def MirrorRecord.lastLeg (r : MirrorRecord) (n : LegNo) (t : TargetId) (x : Xid) (o : EndOutcome) : MirrorRecord :=
  { r with leg1 := ⟨t, some x, .ended o⟩, leg2 := r.otherLeg n }

/-- What the end of a mirror write gives its master and its window, for a given status and MIRROR_SPLIT (R105 to R107). -/
def State.writeEnds (s : State) (r : MirrorRecord) (status : CompletionStatus) (split : Option (TargetId × SplitCause)) : State :=
  (if r.generation = (s.port r.master).generation then
    match split with
    | none => s.complete r.master ⟨r.tag, status, none, []⟩
    | some (g, cause) => (s.complete r.master ⟨r.tag, status, none, []⟩).post r.master (.mirrorSplit r.window g r.tag cause)
  else s).countFalls r.window

/-- The record of a leg's end is that of the same write. -/
theorem MirrorRecord.record_frame (r : MirrorRecord) (n : LegNo) (o : EndOutcome) :
    (r.record n o).master = r.master ∧ (r.record n o).tag = r.tag ∧ (r.record n o).generation = r.generation ∧
    (r.record n o).window = r.window := by
  cases n <;> exact ⟨rfl, rfl, rfl, rfl⟩

section LastLeg

variable {s : State} {holder t : TargetId} {x : Xid} {n : LegNo} {o : EndOutcome} {r : MirrorRecord}
  {before after : List MirrorRecord} {status : CompletionStatus} {split : Option (TargetId × SplitCause)}

theorem MirrorRecord.names_iff : r.names n t x = true ↔ r.leg n = ⟨t, some x, .pending⟩ := by
  rw [MirrorRecord.names]
  obtain ⟨t', x', o'⟩ := r.leg n
  simp [and_assoc]

/-- The record of a leg's end has not ended the write while the other leg is outstanding. -/
theorem MirrorRecord.allEnded_record (hp : (r.otherLeg n).outcome = .pending) : (r.record n o).allEnded = false := by
  cases n <;> simp_all [MirrorRecord.allEnded, MirrorRecord.record, MirrorRecord.otherLeg]

/-- The record of a leg's end has the result of the leg that ended with the other leg. -/
theorem MirrorRecord.result_record (hr : r.names n t x = true) : (r.record n o).result = (r.lastLeg n t x o).result := by
  rw [MirrorRecord.names_iff] at hr
  cases n with
  | one =>
    change r.leg1 = _ at hr
    simp only [MirrorRecord.record, MirrorRecord.lastLeg, MirrorRecord.otherLeg, hr]
  | two =>
    change r.leg2 = _ at hr
    rw [← MirrorRecord.result_swap]
    simp only [MirrorRecord.record, MirrorRecord.lastLeg, MirrorRecord.otherLeg, hr]

/-- The end of a write, by the result of its record. -/
theorem State.endMirror_record (s : State) (h : (r.record n o).result = some (status, split)) :
    s.endMirror (r.record n o) = s.writeEnds r status split := by
  obtain ⟨hm, ht, hg, hw⟩ := r.record_frame n o
  cases split <;> simp only [State.endMirror, State.writeEnds, h, hm, ht, hg, hw]

section Found

variable (hm : (s.target holder).mirrors = before ++ r :: after) (hn : ∀ q ∈ before ++ after, q.names n t x = false)
  (hr : r.names n t x = true)

include hm hn hr

/-- The end of a leg that one mirror record names. -/
theorem legEnds_found : s.legEnds ⟨holder, n⟩ t x o =
    if (r.record n o).allEnded then
      (s.setTarget holder { s.target holder with mirrors := before ++ after }).endMirror (r.record n o)
    else s.setTarget holder { s.target holder with mirrors := before ++ r.record n o :: after } := by
  have hb : ∀ q ∈ before, q.names n t x = false := fun q hq => hn q (List.mem_append_left _ hq)
  have ha : ∀ q ∈ after, q.names n t x = false := fun q hq => hn q (List.mem_append_right _ hq)
  have found : (s.target holder).mirrors.find? (fun q => q.names n t x) = some r :=
    List.find?_eq_some_iff_append.mpr ⟨hr, before, after, hm, by simpa using hb⟩
  have removed : (s.target holder).mirrors.eraseP (fun q => q.names n t x) = before ++ after := by
    rw [hm, List.eraseP_append_right _ (by simpa using hb), List.eraseP_cons, hr, cond_true]
  have unnamed {l : List MirrorRecord} (hl : ∀ q ∈ l, q.names n t x = false) :
      l.map (fun q => if q.names n t x then q.record n o else q) = l :=
    List.map_congr_left (fun q hq => if_neg (by simp [hl q hq])) |>.trans (List.map_id' l)
  have marked : (s.target holder).mirrors.map (fun q => if q.names n t x then q.record n o else q) =
      before ++ r.record n o :: after := by
    rw [hm, List.map_append, List.map_cons, unnamed hb, unnamed ha, if_pos hr]
  simp only [State.legEnds, found, removed, marked]

/-- The first leg of two to end is only recorded. -/
theorem legEnds_first (hp : (r.otherLeg n).outcome = .pending) : s.legEnds ⟨holder, n⟩ t x o =
    s.setTarget holder { s.target holder with mirrors := before ++ r.record n o :: after } := by
  rw [legEnds_found hm hn hr, MirrorRecord.allEnded_record hp, if_neg Bool.false_ne_true]

/-- With the last sent leg the record is removed and the write ends with the result of its legs. -/
theorem legEnds_last (h : (r.lastLeg n t x o).result = some (status, split)) : s.legEnds ⟨holder, n⟩ t x o =
    (s.setTarget holder { s.target holder with mirrors := before ++ after }).writeEnds r status split := by
  rw [← MirrorRecord.result_record hr] at h
  rw [legEnds_found hm hn hr, if_pos (MirrorRecord.allEnded_of_result h), State.endMirror_record _ h]

end Found

end LastLeg

/-- Settles O44: the outcome of the other leg decides whether the write ends, and the result of both legs decides how. -/
theorem aMirrorWriteEndsWithItsLastLeg : Obligations.AMirrorWriteEndsWithItsLastLeg := by
  unfold Obligations.AMirrorWriteEndsWithItsLastLeg
  intro s holder t x n o r before after other hm hn hr h1 h2
  obtain rfl : other = r.otherLeg n := by
    cases n with
    | one => exact h1 rfl
    | two => exact h2 rfl
  intro removed ends
  have last {status split} (h : (r.lastLeg n t x o).result = some (status, split)) :
      s.legEnds ⟨holder, n⟩ t x o = ends status split := by
    rw [legEnds_last hm hn hr h]
    cases split <;> rfl
  -- From here on `last` alone says what `ends` is.
  clear_value ends
  refine ⟨legEnds_first hm hn hr, fun hp ho => ?_, fun cause hp hc => ?_, fun e cause hp hc ho => ?_, fun e hp he ho => ?_,
    fun hp => ⟨fun ho => ?_, fun ho => ?_⟩⟩
  · subst ho
    exact last (MirrorRecord.result_bothOk rfl hp)
  · exact last (MirrorRecord.result_oneFailed rfl hc hp)
  · subst ho
    exact last ((MirrorRecord.result_swap _).symm.trans (MirrorRecord.result_oneFailed hp hc rfl))
  · have both := last (MirrorRecord.result_bothFailed rfl hp ho he)
    refine ⟨fun ht => ?_, fun het hot hl => ?_, fun hee hoe => ?_⟩
    · rwa [bothFailedStatus, if_pos ht.symm] at both
    · rwa [bothFailedStatus, if_neg (not_or.mpr ⟨hot, het⟩), if_pos hl.symm] at both
    · subst hee hoe
      exact both
  · subst ho
    exact last (MirrorRecord.result_okSkipped rfl hp)
  · exact last (MirrorRecord.result_failedSkipped rfl hp ho)

end Sys2Proof.Machine
end

section
/-! Unfences: the return of a target to ONLINE by UNFENCE_TARGET (O25). -/

namespace Sys2Proof.Machine

-- One proof after the other, as in the tests: together they would take too many threads, and their stacks too much memory.
set_option Elab.async false

variable {s : State} {i : TargetId}

/-! ### The return to ONLINE (R110, R116) -/

/-- A target port back in ONLINE; what it has outstanding stands. -/
def TargetPort.restored (p : TargetPort) : TargetPort := { p with state := .online, consecutive := 0 }

/-- The masters told of the return are those UP before it: the return changes no port. -/
theorem State.restore_eq (s : State) (i : TargetId) (left : TargetState) :
    s.restore i left = (s.setTarget i (s.target i).restored).postEach s.upMasters (.targetRestored i left) := rfl

theorem State.restore_target_self (s : State) (i : TargetId) (left : TargetState) :
    (s.restore i left).target i = (s.target i).restored := by
  simp [State.restore, TargetPort.restored]

theorem State.tellRequesters_target_self (s : State) (i : TargetId) (b : NoticeBody) :
    (s.tellRequesters i b).target i = { s.target i with requesters := MasterSet.empty } := by
  simp [State.tellRequesters]

theorem State.tellRequesters_upMasters (s : State) (i : TargetId) (b : NoticeBody) :
    (s.tellRequesters i b).upMasters = s.upMasters :=
  (State.SameLinks.of_ports (by simp)).upMasters

/-- The return of a target whose fence is cancelled: its requesters are told before the masters that are UP, and both changes of
the target port are one. -/
theorem State.restore_tellRequesters (s : State) (i : TargetId) (b : NoticeBody) (left : TargetState) :
    (s.tellRequesters i b).restore i left =
      ((s.postEach (s.target i).requesters.members b).setTarget i
        { (s.target i).restored with requesters := MasterSet.empty }).postEach s.upMasters (.targetRestored i left) := by
  rw [State.restore_eq, State.tellRequesters_target_self, State.tellRequesters_upMasters]
  simp [State.tellRequesters, TargetPort.restored]

/-- The reply of a return: ONLINE, and the outstanding count as it was before. -/
theorem State.restore_fenceReply (s : State) (i : TargetId) (left : TargetState) (r : Result) :
    (s.restore i left).fenceReply i r = (s.restore i left, ⟨r, [0, (s.target i).outstanding]⟩) := by
  rw [State.fenceReply, State.restore_target_self]
  rfl

/-! ### UNFENCE_TARGET (R109, R115) -/

section Effect
variable {m : MasterId} {a : Args} (ht : argNat a 0 = i.val)
include ht

theorem unfenceEffect_online (hs : (s.target i).state = .online) :
    unfenceEffect s m a = (s, ⟨.already, [0, (s.target i).outstanding]⟩) := by
  simp [unfenceEffect, argFin_eq_some i ht, State.fenceReply, hs, TargetState.code]

theorem unfenceEffect_fencing (hs : (s.target i).state = .fencing) (hl : (s.target i).link ≠ .down) :
    unfenceEffect s m a = ((s.tellRequesters i (.fenceCancelled i)).restore i .fencing,
      ⟨.accepted, [0, (s.target i).outstanding]⟩) := by
  simp only [unfenceEffect, argFin_eq_some i ht, hs, if_neg hl]
  rw [State.restore_fenceReply, State.tellRequesters_target_self]
  rfl

theorem unfenceEffect_fenced (hs : (s.target i).state = .fenced) (hl : (s.target i).link ≠ .down) :
    unfenceEffect s m a = (s.restore i .fenced, ⟨.accepted, [0, (s.target i).outstanding]⟩) := by
  simp only [unfenceEffect, argFin_eq_some i ht, hs, if_neg hl, State.restore_fenceReply]

theorem unfenceEffect_faulted (hs : (s.target i).state = .faulted) (hl : (s.target i).link = .up) :
    unfenceEffect s m a = (s.restore i .faulted, ⟨.accepted, [0, (s.target i).outstanding]⟩) := by
  simp only [unfenceEffect, argFin_eq_some i ht, hs, if_pos hl, State.restore_fenceReply]

/-- A target out of service with its link DOWN stays as it is, and the reply names its state. -/
theorem unfenceEffect_linkDown (hs : (s.target i).state = .fenced ∨ (s.target i).state = .faulted)
    (hl : (s.target i).link = .down) :
    unfenceEffect s m a = (s, ⟨.linkDown, [(s.target i).state.code, (s.target i).outstanding]⟩) := by
  rcases hs with hs | hs <;> simp [unfenceEffect, argFin_eq_some i ht, State.fenceReply, hs, hl]

end Effect

/-- Settles O25: the effect of each row of R115, by the target's state and its link. -/
theorem unfenceTargetRestores : Obligations.UnfenceTargetRestores := by
  unfold Obligations.UnfenceTargetRestores
  intro s m a i h ht up n
  refine ⟨fun hs => ?_, fun hs hl => ?_, fun hs hl => ?_, fun hs hl => ?_, fun hs hl => ?_, fun hs hl => ?_⟩
  · exact exec_atBlock rfl h (unfenceEffect_online ht hs)
  · rw [exec_atBlock rfl h (unfenceEffect_fencing ht hs hl), State.restore_tellRequesters]
    rfl
  · exact exec_atBlock rfl h (unfenceEffect_fenced ht hs hl)
  · exact exec_atBlock rfl h (unfenceEffect_faulted ht hs hl)
  · rw [exec_atBlock rfl h (unfenceEffect_linkDown ht (.inl hs) hl), hs]
    rfl
  · rw [exec_atBlock rfl h (unfenceEffect_linkDown ht (.inr hs) hl), hs]
    rfl

end Sys2Proof.Machine
end

section
/-! Closed: while the setup right is CLOSED no step changes the address map or a setting (O59). -/

namespace Sys2Proof.Machine

-- One proof after the other, as in the tests: together they would take too many threads, and their stacks too much memory.
set_option Elab.async false

variable {s t u : State} {i : TargetId}

/-! ### One window -/

/-- A record is kept (R125), and a FREE one as it is: what the steps of one happening, one after the other, do to it. -/
structure WindowRecord.Stays (r r' : WindowRecord) : Prop where
  kept : r'.keptFrom r
  free : r = WindowRecord.freeRecord → r' = WindowRecord.freeRecord

theorem WindowRecord.Stays.refl (r : WindowRecord) : r.Stays r := ⟨.inl rfl, id⟩

theorem WindowRecord.Stays.trans {r r' r'' : WindowRecord} (h : r.Stays r') (h' : r'.Stays r'') : r.Stays r'' where
  kept := by
    rcases h.kept with he | ⟨hs, he⟩
    · rcases h'.kept with he' | ⟨hs', he'⟩
      · exact .inl (by rw [he', he])
      · rw [he] at hs'
        exact .inr ⟨hs', he'⟩
    · exact .inr ⟨hs, h'.free he⟩
  free := h'.free ∘ h.free

theorem WindowRecord.Stays.freed {r : WindowRecord} (h : r.state = .retiring) : r.Stays WindowRecord.freeRecord :=
  ⟨.inr ⟨h, rfl⟩, fun _ => rfl⟩

theorem WindowRecord.Stays.fallen (r : WindowRecord) : r.Stays r.fallen := by
  unfold WindowRecord.fallen
  split
  · next h => exact .freed h.1
  · exact ⟨.inl rfl, fun e => by subst e; rfl⟩

theorem WindowRecord.Stays.risen {r : WindowRecord} (h : r.state = .active) : r.Stays r.risen :=
  ⟨.inl rfl, fun e => by rw [e] at h; cases h⟩

theorem WindowRecord.Stays.cleanedFor (r : WindowRecord) (m : MasterId) : r.Stays (r.cleanedFor m) := by
  unfold WindowRecord.cleanedFor
  split
  · exact ⟨.inl rfl, fun e => by subst e; rfl⟩
  · exact .refl r

/-! ### The part -/

/-- The timeout and the threshold of a target port stand (R96). -/
def TargetPort.SameSettings (p q : TargetPort) : Prop := q.timeout = p.timeout ∧ q.threshold = p.threshold

theorem TargetPort.sameSettings_owing (p : TargetPort) : p.SameSettings p.owing := by
  simp [TargetPort.SameSettings, TargetPort.owing]

/-- The address map and the settings stand between the two states, and a CLOSED setup right with them (R125). -/
structure State.MapStays (s t : State) : Prop where
  windows : ∀ w, (s.window w).Stays (t.window w)
  defaults : t.defaultRead = s.defaultRead ∧ t.defaultWrite = s.defaultWrite
  tick : t.time.scale = s.time.scale ∧ t.time.divider = s.time.divider
  targets : ∀ i, (s.target i).SameSettings (t.target i)
  closed : s.closedOk → t.closedOk

theorem State.MapStays.mapKeptFrom (h : s.MapStays t) : t.mapKeptFrom s :=
  ⟨fun w => (h.windows w).kept, h.defaults.1, h.defaults.2, h.tick.1, h.tick.2, h.targets⟩

/-- The windows change, each as it may; nothing else of the map does, nor the engine. -/
theorem State.MapStays.of_windows (hw : ∀ w, (s.window w).Stays (t.window w)) (hr : t.defaultRead = s.defaultRead := by simp)
    (hd : t.defaultWrite = s.defaultWrite := by simp) (ht : t.time = s.time := by simp) (hg : t.targets = s.targets := by simp)
    (he : t.engine = s.engine := by simp) : s.MapStays t where
  windows := hw
  defaults := ⟨hr, hd⟩
  tick := by simp [ht]
  targets i := by rw [show t.target i = s.target i by simp [State.target, hg]]; exact ⟨rfl, rfl⟩
  closed h := by rwa [State.closedOk, he]

/-- Where these tables and the engine stand, the map stands. -/
theorem State.MapStays.of_frame (hw : t.windows = s.windows := by simp) (hr : t.defaultRead = s.defaultRead := by simp)
    (hd : t.defaultWrite = s.defaultWrite := by simp) (ht : t.time = s.time := by simp) (hg : t.targets = s.targets := by simp)
    (he : t.engine = s.engine := by simp) : s.MapStays t :=
  .of_windows (fun w => by rw [show t.window w = s.window w by simp [State.window, hw]]; exact .refl _) hr hd ht hg he

theorem State.MapStays.refl (s : State) : s.MapStays s := .of_frame rfl rfl rfl rfl rfl rfl

theorem State.MapStays.trans (h : s.MapStays t) (h' : t.MapStays u) : s.MapStays u where
  windows w := (h.windows w).trans (h'.windows w)
  defaults := ⟨h'.defaults.1.trans h.defaults.1, h'.defaults.2.trans h.defaults.2⟩
  tick := ⟨h'.tick.1.trans h.tick.1, h'.tick.2.trans h.tick.2⟩
  targets i := ⟨(h'.targets i).1.trans (h.targets i).1, (h'.targets i).2.trans (h.targets i).2⟩
  closed := h'.closed ∘ h.closed

theorem State.MapStays.foldl {α : Type} {f : State → α → State} (h : ∀ (s : State) a, s.MapStays (f s a)) (l : List α)
    (s : State) : s.MapStays (l.foldl f s) := by
  induction l generalizing s with
  | nil => exact .refl s
  | cons a l ih => exact (h s a).trans (ih _)

theorem State.MapStays.setTarget {p : TargetPort} (h : (s.target i).SameSettings p) : s.MapStays (s.setTarget i p) where
  windows _ := .refl _
  defaults := ⟨rfl, rfl⟩
  tick := ⟨rfl, rfl⟩
  targets j := by
    rw [State.setTarget_target]
    split
    · next e => exact e ▸ h
    · exact ⟨rfl, rfl⟩
  closed := id

theorem State.MapStays.setTime {b : TimeBase} (hs : b.scale = s.time.scale) (hd : b.divider = s.time.divider) :
    s.MapStays (s.setTime b) where
  windows _ := .refl _
  defaults := ⟨rfl, rfl⟩
  tick := ⟨hs, hd⟩
  targets _ := ⟨rfl, rfl⟩
  closed := id

/-- The engine changes as a CLOSED setup right lets it. -/
theorem State.MapStays.setEngine {e : Engine}
    (h : s.closedOk → e.setup = .closed ∧ ∀ u ∈ e.underWay, u.command.permission ≠ .setup) : s.MapStays (s.setEngine e) where
  windows _ := .refl _
  defaults := ⟨rfl, rfl⟩
  tick := ⟨rfl, rfl⟩
  targets _ := ⟨rfl, rfl⟩
  closed := h

/-- A command slot is no part of the map. -/
theorem State.MapStays.setSlot (s : State) (m : MasterId) (sl : Slot) : s.MapStays (s.setSlot m sl) := .setEngine id

theorem State.MapStays.post (s : State) (m : MasterId) (b : NoticeBody) : s.MapStays (s.post m b) := .of_frame

theorem State.MapStays.postEach (s : State) (ms : List MasterId) (b : NoticeBody) : s.MapStays (s.postEach ms b) := .of_frame

/-! ### Windows: the falls and rises of a count (R16, R19) -/

theorem State.MapStays.countFalls (s : State) (w : WindowId) : s.MapStays (s.countFalls w) := by
  refine .of_windows fun w' => ?_
  rw [State.countFalls_window]
  split
  · next e => exact e ▸ .fallen _
  · exact .refl _

theorem State.MapStays.bindingEnds (s : State) (w : Option WindowId) : s.MapStays (s.bindingEnds w) := by
  cases w with
  | none => exact .refl s
  | some w => exact .countFalls s w

theorem State.MapStays.finishRetirement (s : State) (w : WindowId) : s.MapStays (s.finishRetirement w) := by
  refine .of_windows fun w' => ?_
  rw [State.finishRetirement_window]
  split
  · next h =>
    obtain ⟨rfl, hs, -⟩ := h
    exact .freed hs
  · exact .refl _

theorem State.MapStays.cleanWindows (s : State) (m : MasterId) : s.MapStays (s.cleanWindows m) :=
  .of_windows fun w => by simpa [State.window, State.cleanWindows] using WindowRecord.Stays.cleanedFor _ m

/-- A head is bound to an ACTIVE window, if to one at all. -/
theorem State.MapStays.bindHead {m : MasterId} {r : Request} {b : Binding} (hd : s.steered m r = .bind b) :
    s.MapStays (s.bindHead m b) where
  windows w := by
    rw [State.bindHead_window]
    split
    · next hw => exact .risen ((steered_bind hd).1 w hw).1
    · exact .refl _
  defaults := by simp
  tick := by simp
  targets i := by
    rw [State.bindHead_target]
    split <;> exact ⟨rfl, rfl⟩
  closed h := by simpa [State.closedOk] using h

/-! ### Steering decisions -/

/-- A write of the control page changes the engine in a slot at most. -/
theorem State.MapStays.pageWrite (s : State) (m : MasterId) (w : PageWord) (v : Word) (tag : Tag) :
    s.MapStays (s.pageWrite m w v tag) := by
  cases w with
  | command =>
    show s.MapStays (s.writeCommandWord m v tag)
    unfold State.writeCommandWord
    split
    · split
      · exact .setSlot s m _
      · exact .post s m _
    · exact .refl s
  | argument i =>
    show s.MapStays (s.writeArgument m i v)
    unfold State.writeArgument
    split
    · exact .setSlot s m _
    · exact .refl s
  | _ => exact .of_frame rfl rfl rfl rfl rfl rfl

theorem State.MapStays.pageAccess (s : State) (m : MasterId) (r : Request) : s.MapStays (s.pageAccess m r) := by
  unfold State.pageAccess
  split
  · exact .of_frame
  · exact (State.MapStays.pageWrite s m r.pageWord (bytesWord r.data) r.tag).trans .of_frame

theorem State.MapStays.carryOut (m : MasterId) (r : Request) {d : Decision} (hd : ∀ b, d = .bind b → s.steered m r = .bind b) :
    s.MapStays (s.carryOut m r d) := by
  cases d with
  | controlPage => exact .pageAccess s m r
  | refuse code => exact .of_frame (t := s.refuseHead m r.tag code)
  | heldElsewhere w => exact .of_frame (t := (s.refuseHead m r.tag .heldElsewhere).markContention w m)
  | fill => exact .of_frame (t := s.completeHead m _)
  | discard => exact .of_frame (t := s.completeHead m _)
  | bind b => exact .bindHead (hd b rfl)
  | waitAtLimit => exact .of_frame (t := s.holdHead m)

theorem State.MapStays.decideHead (s : State) (m : MasterId) : s.MapStays (s.decideHead m) := by
  unfold State.decideHead
  split
  · exact .carryOut m _ fun b => steered_of_decision
  · exact .refl s

theorem State.MapStays.redecideHead (s : State) (m : MasterId) : s.MapStays (s.redecideHead m) := by
  unfold State.redecideHead
  split
  · exact .carryOut m _ fun b => id
  · exact .refl s

theorem State.MapStays.redecideHeads (s : State) : s.MapStays s.redecideHeads := .foldl State.MapStays.redecideHead _ _

theorem State.MapStays.redecideAfterFalls (s before : State) : s.MapStays (s.redecideAfterFalls before) := by
  unfold State.redecideAfterFalls
  split
  · exact .redecideHeads s
  · exact .refl s

/-! ### Target ports -/

theorem State.MapStays.endMirror (s : State) (r : MirrorRecord) : s.MapStays (s.endMirror r) := by
  refine State.MapStays.trans (.of_frame ?_ ?_ ?_ ?_ ?_ ?_) (.countFalls _ r.window)
  all_goals (repeat' split) <;> simp

theorem State.MapStays.legEnds (s : State) (ref : LegRef) (i : TargetId) (x : Xid) (o : EndOutcome) :
    s.MapStays (s.legEnds ref i x o) := by
  have marked (ms : List MirrorRecord) :
      s.MapStays (s.setTarget ref.holder { s.target ref.holder with mirrors := ms }) := .setTarget ⟨rfl, rfl⟩
  unfold State.legEnds
  dsimp only
  split
  · exact .refl s
  · split
    · exact (marked _).trans (.endMirror _ _)
    · exact marked _

theorem State.MapStays.endTransaction (s : State) (i : TargetId) (x : Xid) (o : EndOutcome) (data : List Byte) :
    s.MapStays (s.endTransaction i x o data) := by
  have freed : s.MapStays (s.setTarget i ((s.target i).freeXid x)) := .setTarget ⟨rfl, rfl⟩
  unfold State.endTransaction
  split
  · exact .refl s
  · dsimp only
    split
    · exact freed.trans (.legEnds _ _ i x o)
    · refine freed.trans (State.MapStays.trans ?_ (.bindingEnds _ _))
      split
      · exact .of_frame
      · exact .refl _

theorem State.MapStays.enterState (s : State) (i : TargetId) (st : TargetState) : s.MapStays (s.enterState i st) :=
  .setTarget ⟨rfl, rfl⟩

theorem State.MapStays.setLink (s : State) (i : TargetId) (l : TargetLink) : s.MapStays (s.setLink i l) :=
  .setTarget ⟨rfl, rfl⟩

theorem State.MapStays.joinRequesters (s : State) (i : TargetId) (m : MasterId) : s.MapStays (s.joinRequesters i m) :=
  .setTarget ⟨rfl, rfl⟩

theorem State.MapStays.reexamineHead (s : State) (i : TargetId) (m : MasterId) : s.MapStays (s.reexamineHead i m) := by
  have stopped : s.MapStays (s.stopWaiting i m) := .setTarget ⟨rfl, rfl⟩
  rcases reexamineHead_cases s i m with ⟨-, he⟩ | ⟨r, b, code, -, -, -, he⟩ | ⟨r, b, t1, a1, t2, a2, -, -, -, -, he⟩
  · exact he ▸ stopped
  · exact he ▸ stopped.trans (State.MapStays.trans .of_frame (.bindingEnds ((s.stopWaiting i m).refuseHead m r.tag code) _))
  · exact he ▸ stopped.trans .of_frame

theorem State.MapStays.reexamine (s : State) (i : TargetId) : s.MapStays (s.reexamine i) :=
  .foldl (fun s m => .reexamineHead s i m) _ _

theorem State.MapStays.tellRequesters (s : State) (i : TargetId) (b : NoticeBody) : s.MapStays (s.tellRequesters i b) :=
  (State.MapStays.postEach s _ b).trans (.setTarget ⟨rfl, rfl⟩)

theorem State.MapStays.finishDrain (s : State) (i : TargetId) : s.MapStays (s.finishDrain i) := by
  unfold State.finishDrain
  split
  · exact (State.MapStays.enterState s i _).trans (.tellRequesters _ i _)
  · exact .refl s

theorem State.MapStays.faultByThreshold (s : State) (i : TargetId) : s.MapStays (s.faultByThreshold i) :=
  (State.MapStays.enterState s i .faulted).trans ((State.MapStays.reexamine _ i).trans (.postEach _ _ _))

theorem State.MapStays.endByTimeout (s : State) (i : TargetId) (x : Xid) : s.MapStays (s.endByTimeout i x) := by
  have counted : s.MapStays ((s.endTransaction i x .timeout []).countTimeout i) :=
    (State.MapStays.endTransaction s i x _ _).trans (.setTarget ⟨rfl, rfl⟩)
  unfold State.endByTimeout
  dsimp only
  split
  · exact counted.trans (.faultByThreshold _ i)
  · exact counted.trans (.finishDrain _ i)

theorem State.MapStays.countAge (s : State) (i : TargetId) (x : Xid) : s.MapStays (s.countAge i x) := by
  unfold State.countAge
  split
  · exact .refl s
  · next r _ =>
    split
    · have counted : s.MapStays
          (s.setTarget i { s.target i with records := (s.target i).records.put x (some r.count) }) := .setTarget ⟨rfl, rfl⟩
      dsimp only
      split
      · exact counted.trans ((State.MapStays.endByTimeout _ i x).trans (.redecideAfterFalls _ _))
      · exact counted
    · exact .refl s

theorem State.MapStays.noteAnswer (s : State) (i : TargetId) (a : AnswerStatus) : s.MapStays (s.noteAnswer i a) := by
  cases a with
  | ok => exact .setTarget ⟨rfl, rfl⟩
  | error => exact .refl s

theorem State.MapStays.takeAnswer (s : State) (i : TargetId) (f : AnswerFrame) : s.MapStays (s.takeAnswer i f) := by
  have stray : s.MapStays (s.countStray i) := .setTarget ⟨rfl, rfl⟩
  unfold State.takeAnswer
  split
  · exact stray
  · split
    · exact (State.MapStays.noteAnswer s i f.status).trans ((State.MapStays.endTransaction _ i f.xid _ _).trans
        ((State.MapStays.finishDrain _ i).trans (.redecideAfterFalls _ _)))
    · exact stray

theorem State.MapStays.linkDown (s : State) (i : TargetId) : s.MapStays (s.linkDown i) := by
  have lost : s.MapStays ((s.setLink i .down).loseAll i) :=
    (State.MapStays.setLink s i .down).trans (.foldl (fun s x => .endTransaction s i x .targetLost []) _ _)
  have faulted := lost.trans ((State.MapStays.enterState _ i .faulted).trans (.reexamine _ i))
  have told (ms : List MasterId) := faulted.trans (.postEach _ ms (.targetFaulted i .linkDown))
  refine State.MapStays.trans ?_ (.redecideAfterFalls _ s)
  unfold State.linkLost
  dsimp only
  split
  · exact (told _).trans (.tellRequesters _ i _)
  · exact told _

/-! ### Fences and grants -/

theorem State.MapStays.startFence (s : State) (i : TargetId) (m : MasterId) : s.MapStays (s.startFence i m) := by
  refine State.MapStays.trans ?_ (.redecideAfterFalls _ s)
  unfold State.enterFence
  split
  · exact (State.MapStays.enterState s i _).trans ((State.MapStays.reexamine _ i).trans (.post _ m _))
  · exact (State.MapStays.enterState s i _).trans ((State.MapStays.joinRequesters _ i m).trans (.reexamine _ i))

theorem State.MapStays.fenceEffect (s : State) (m : MasterId) (a : Args) : s.MapStays (fenceEffect s m a).1 := by
  unfold Machine.fenceEffect
  repeat' split
  · exact .refl s
  · exact .startFence s _ m
  · exact .startFence s _ m
  · exact .refl s
  · exact .joinRequesters s _ m
  · exact .refl s

theorem State.MapStays.restore (s : State) (i : TargetId) (left : TargetState) : s.MapStays (s.restore i left) := by
  have back : s.MapStays (s.setTarget i { s.target i with state := .online, consecutive := 0 }) := .setTarget ⟨rfl, rfl⟩
  exact back.trans (.postEach _ _ _)

theorem State.MapStays.unfenceEffect (s : State) (m : MasterId) (a : Args) : s.MapStays (unfenceEffect s m a).1 := by
  unfold Machine.unfenceEffect
  repeat' split
  · exact .refl s
  · exact .refl s
  · exact .refl s
  · exact (State.MapStays.tellRequesters s _ _).trans (.restore _ _ _)
  · exact .refl s
  · exact .restore s _ _
  · exact .restore s _ _
  · exact .refl s

theorem State.MapStays.forward (s : State) (i : TargetId) (x : Xid) (m : MasterId) (r : Request) (o : OutRecord) :
    s.MapStays (s.forward i x m r o) where
  windows _ := .refl _
  defaults := ⟨rfl, rfl⟩
  tick := ⟨rfl, rfl⟩
  targets j := by
    rw [State.forward_target]
    split
    · next e => exact e ▸ ⟨rfl, rfl⟩
    · exact ⟨rfl, rfl⟩
  closed := id

theorem State.MapStays.leaveHead (s : State) (m : MasterId) : s.MapStays (s.leaveHead m) := .of_frame

theorem State.MapStays.holdMirror (s : State) (i : TargetId) (r : MirrorRecord) : s.MapStays (s.holdMirror i r) :=
  .setTarget ⟨rfl, rfl⟩

theorem State.MapStays.grantOne (s : State) (i : TargetId) (x : Xid) (m : MasterId) (r : Request) (b : Binding) :
    s.MapStays (s.grantOne i x m r b) := by
  have sent (o : OutRecord) := (State.MapStays.forward s i x m r o).trans (.leaveHead _ m)
  unfold State.grantOne
  split
  · exact sent _
  · dsimp only
    split
    · exact (sent _).trans (.holdMirror _ i _)
    · exact sent _
  · exact .refl s

theorem State.MapStays.grantBoth (s : State) (m : MasterId) (r : Request) (b : Binding) : s.MapStays (s.grantBoth m r b) := by
  unfold State.grantBoth
  split
  · split
    · have sent {i j : TargetId} {x y : Xid} (o o' : OutRecord) := (State.MapStays.forward s i x m r o).trans
        ((State.MapStays.forward _ j y m r o').trans (.leaveHead _ m))
      dsimp only
      split
      · exact (sent _ _).trans (.holdMirror _ _ _)
      · exact sent _ _
    · exact .refl s
  · exact .refl s

theorem State.MapStays.xidGrant (s : State) (i : TargetId) : s.MapStays (s.xidGrant i) := by
  unfold State.xidGrant
  repeat' split
  · exact .refl s
  · exact .refl s
  · exact .grantOne s i _ _ _ _
  · exact .refl s

theorem State.MapStays.mirrorXidGrant (s : State) (i : TargetId) : s.MapStays (s.mirrorXidGrant i) := by
  unfold State.mirrorXidGrant
  repeat' split
  · exact .refl s
  · exact .grantBoth s _ _ _
  · exact .refl s
  · exact .refl s

/-! ### Ticks and cleanups -/

theorem State.MapStays.oweAt (s : State) (b : TickBlock) : s.MapStays (s.oweAt b) := by
  cases b with
  | leases => exact .of_frame (t := s.oweAtLeases)
  | target i => exact .setTarget (s.target i).sameSettings_owing

theorem State.MapStays.takeOwedAt (s : State) (b : TickBlock) : s.MapStays (s.takeOwedAt b) := by
  cases b with
  | leases => exact .of_frame (t := s.takeOwedLeases)
  | target i => exact .foldl (f := fun s x => s.countAge i x) (fun s x => .countAge s i x) _ _

theorem State.MapStays.tickPart (s : State) (part : TickPart) : s.MapStays (s.tickPart part) := by
  cases part with
  | emit => exact .setTime rfl rfl
  | arrive b =>
    show s.MapStays (s.tickArrives b)
    unfold State.tickArrives
    split
    · exact .refl s
    · have arrived : (s.takeOwedAt b).MapStays ((s.takeOwedAt b).setTime
          { (s.takeOwedAt b).time with due := (s.takeOwedAt b).time.due.arrived b }) := .setTime rfl rfl
      exact (State.MapStays.takeOwedAt s b).trans (arrived.trans (.oweAt _ b))
  | lease w => exact .of_frame (t := s.countLease w)
  | claim w m => exact .of_frame (t := s.countClaim w m)
  | age i x => exact .countAge s i x

theorem State.MapStays.refclk (s : State) : s.MapStays s.refclk := by
  unfold State.refclk
  split <;> exact .setTime rfl rfl

theorem State.MapStays.startCleanup (s : State) (m : MasterId) : s.MapStays (s.startCleanup m) := by
  have emptied : s.MapStays (s.setPort m (s.port m).emptied) := .of_frame
  have lowered := emptied.trans (.foldl .countFalls ((s.port m).inbound.filterMap Request.boundWindow) _)
  exact (lowered.trans (.of_frame (t := s.takeOwnPart m) rfl rfl rfl rfl rfl rfl)).trans (.redecideAfterFalls _ s)

theorem State.MapStays.takePart (m : MasterId) (b : CleanupBlock) {part : State → State} (h : s.MapStays (part s)) :
    s.MapStays (s.takePart m b part) := by
  unfold State.takePart
  split
  · exact h.trans .of_frame
  · exact .refl s

/-- The cleanup of a master opens a right that it holds, which a CLOSED one is not (R126). -/
theorem State.MapStays.cleanEngine (s : State) (m : MasterId) : s.MapStays (s.cleanEngine m) := by
  refine .setEngine fun ⟨hc, hu⟩ => ⟨by simp [hc, SetupRight.cleanedFor], fun u' h' => ?_⟩
  obtain ⟨u, h, rfl⟩ := Option.map_eq_some_iff.mp h'
  unfold UnderWay.cleanedFor
  split <;> exact hu u h

/-! ### The engine and the delivered commands -/

/-- While the right is CLOSED the class check permits no setup class command (R128). -/
theorem permission_of_closed {m : MasterId} {k : CommandClass} (hc : s.engine.setup = .closed)
    (hp : classCheck s.engine.setup m k = none) : k ≠ .setup := by
  rintro rfl
  simp [classCheck, hc] at hp

/-- A command of the engine's own that a CLOSED right permits changes nothing. -/
theorem engineEffect_of_closed {c : Command} (hc : s.engine.setup = .closed) (hp : c.permission ≠ .setup) (m : MasterId)
    (a : Args) : (s.engineEffect c m a).1 = s := by
  cases c with
  | takeSetup => simp [State.engineEffect, State.takeSetup, hc]
  | handSetup | dropSetup | closeSetup => exact absurd rfl hp
  | _ => rfl

theorem State.MapStays.takeSlot (hs : s.closedOk) (m : MasterId) : s.MapStays (s.takeSlot m) := by
  have served : s.MapStays (s.setEngine { s.engine with lastServed := m }) := .setEngine id
  unfold State.takeSlot
  dsimp only
  split
  · exact served.trans (.setSlot _ m _)
  · next c _ =>
    split
    · exact served.trans (.setSlot _ m _)
    · next hp =>
      have permitted : c.permission ≠ .setup := permission_of_closed hs.1 hp
      split
      · refine served.trans ?_
        rw [engineEffect_of_closed (served.closed hs).1 permitted]
        exact .setSlot _ m _
      · refine served.trans (.setEngine fun h => ⟨h.1, fun u hu => ?_⟩)
        cases hu
        exact permitted

theorem State.MapStays.finishCommand (s : State) (u : UnderWay) (r : Reply) : s.MapStays (s.finishCommand u r) := by
  have ended : s.MapStays (s.setEngine { s.engine with underWay := none }) := .setEngine fun h => ⟨h.1, by simp⟩
  unfold State.finishCommand
  dsimp only
  split
  · exact ended
  · exact ended.trans (.setSlot _ _ _)

theorem State.MapStays.takeDelivered {k : Command} {effect : State → MasterId → Args → State × Reply}
    (h : ∀ m a, s.MapStays (effect s m a).1) : s.MapStays (s.takeDelivered k effect) := by
  unfold State.takeDelivered
  split
  · split
    · exact (h _ _).trans (.finishCommand _ _ _)
    · exact .refl s
  · exact .refl s

/-- While the right is CLOSED no setup class command is taken at its block: none is under way. -/
theorem takeDelivered_of_closed {k : Command} (hs : s.closedOk) (hk : k.permission = .setup)
    (effect : State → MasterId → Args → State × Reply) : s.takeDelivered k effect = s := by
  unfold State.takeDelivered
  split
  · next u hu => exact if_neg fun e => hs.2 u hu (by rw [e]; exact hk)
  · rfl

theorem State.MapStays.tableTaken {p : State × Reply} (h : s.MapStays p.1) : s.MapStays (tableTaken p).1 :=
  h.trans (.redecideHeads _)

theorem State.MapStays.claimEffect (s : State) (m : MasterId) (a : Args) : s.MapStays (claimEffect s m a).1 := by
  unfold Machine.claimEffect State.joinQueue
  repeat' split
  all_goals exact .of_frame rfl rfl rfl rfl rfl rfl

theorem State.MapStays.renewEffect (s : State) (m : MasterId) (a : Args) : s.MapStays (renewEffect s m a).1 := by
  unfold Machine.renewEffect
  repeat' split
  all_goals exact .of_frame rfl rfl rfl rfl rfl rfl

theorem State.MapStays.releaseEffect (s : State) (m : MasterId) (a : Args) : s.MapStays (releaseEffect s m a).1 := by
  unfold Machine.releaseEffect
  repeat' split
  · exact .refl s
  · exact .refl s
  · exact .of_frame (t := s.endLease _)

theorem State.MapStays.withdrawEffect (s : State) (m : MasterId) (a : Args) : s.MapStays (withdrawEffect s m a).1 := by
  unfold Machine.withdrawEffect
  repeat' split
  all_goals exact .of_frame rfl rfl rfl rfl rfl rfl

theorem State.MapStays.queryWindowEffect (s : State) (m : MasterId) (a : Args) : s.MapStays (queryWindowEffect s m a).1 := by
  unfold Machine.queryWindowEffect
  split <;> exact .refl s

theorem State.MapStays.queryTargetEffect (s : State) (m : MasterId) (a : Args) : s.MapStays (queryTargetEffect s m a).1 := by
  unfold Machine.queryTargetEffect
  repeat' split
  · exact .refl s
  · exact .refl s
  · exact .setTarget ⟨rfl, rfl⟩
  · exact .refl s

/-! ### Every step -/

/-- Every command but a device reset leaves a closed map as it is. -/
theorem exec_mapStays {c : Instr} (hs : s.closedOk) (hc : c ≠ .deviceReset) (h : exec c s = .next t) : s.MapStays t := by
  have happens {effect : State → State} (he : s.MapStays (effect s)) (h : happening s effect = .next t) : s.MapStays t := by
    unfold happening at h
    cases h
    split
    · exact he
    · exact .refl s
  have setupClass {k : Command} {effect : State → MasterId → Args → State × Reply} (hk : k.permission = .setup) :
      (happening s fun s => s.takeDelivered k effect) = .next t → s.MapStays t :=
    happens (by rw [takeDelivered_of_closed hs hk]; exact .refl s)
  unfold exec at h
  cases c with
  | deviceReset => exact absurd rfl hc
  | rstNRelease =>
    unfold execRstNRelease at h
    cases h
    split
    · exact (State.MapStays.setTime (s := s) (b := { s.time with prescale := 0 }) rfl rfl).trans
        (.of_frame rfl rfl rfl rfl rfl rfl)
    · exact .refl s
  | tick part => exact happens (.tickPart s part) h
  | expired w =>
    refine happens ?_ h
    split
    · exact .of_frame (t := s.countLease w)
    · exact .refl s
  | handoff w => exact happens (.of_frame (t := s.handOff w)) h
  | claimLapsed w m =>
    refine happens ?_ h
    split
    · exact .of_frame (t := s.countClaim w m)
    · exact .refl s
  | timeout i x =>
    refine happens ?_ h
    split
    · exact .countAge s i x
    · exact .refl s
  | requestFrame m f =>
    refine happens ?_ h
    split
    · exact .of_frame (t := s.takeRequest m f)
    · exact .refl s
  | portReset m =>
    refine happens ?_ h
    split
    · exact .startCleanup s m
    · exact .refl s
  | linkDrop m =>
    have lowered : s.MapStays (s.lowerPort m) := .of_frame
    refine happens ?_ h
    split
    · exact lowered.trans (.startCleanup _ m)
    · exact lowered
  | masterLinkTrains m => exact happens (.of_frame rfl rfl rfl rfl rfl rfl) h
  | cleanupEnginePart m =>
    refine happens ?_ h
    exact .takePart m _ (.cleanEngine s m)
  | cleanupNoticePart m =>
    refine happens ?_ h
    exact .takePart m _ .of_frame
  | cleanupLeasePart m =>
    refine happens ?_ h
    exact .takePart m _ .of_frame
  | cleanupWindowPart m =>
    refine happens ?_ h
    exact .takePart m _ (.cleanWindows s m)
  | cleanupTargetPart m i =>
    refine happens ?_ h
    exact .takePart m _ (.setTarget ⟨rfl, rfl⟩)
  | steeringDecision m => exact happens (.decideHead s m) h
  | eventPortRead m | noticeMaskWrite m | controlPageWrite m =>
    refine happens ?_ h
    split
    · exact .decideHead s m
    · exact .refl s
  | commandTake =>
    refine happens ?_ h
    split
    · exact .takeSlot hs _
    · exact .refl s
  | defineWindow | setRoute | setAccess | enableWindow | disableWindow | retireWindow | setDefault | revoke | setTick
  | setTarget => exact setupClass rfl h
  | windowRetired w => exact happens (.finishRetirement s w) h
  | queryWindow =>
    refine happens (.takeDelivered fun m a => ?_) h
    exact .tableTaken (.queryWindowEffect s m a)
  | claim => exact happens (.takeDelivered (.claimEffect s)) h
  | renew => exact happens (.takeDelivered (.renewEffect s)) h
  | release => exact happens (.takeDelivered (.releaseEffect s)) h
  | withdraw => exact happens (.takeDelivered (.withdrawEffect s)) h
  | queryTarget => exact happens (.takeDelivered (.queryTargetEffect s)) h
  | fenceTarget => exact happens (.takeDelivered (.fenceEffect s)) h
  | unfenceTarget => exact happens (.takeDelivered (.unfenceEffect s)) h
  | fenceDone i => exact happens (.finishDrain s i) h
  | xidGrant i => exact happens (.xidGrant s i) h
  | mirrorXidGrant i => exact happens (.mirrorXidGrant s i) h
  | targetCompletion i f =>
    refine happens ?_ h
    split
    · exact .takeAnswer s i f
    · exact .refl s
  | targetLinkDown i =>
    refine happens ?_ h
    split
    · exact .linkDown s i
    · exact .refl s
  | targetLinkTrains i => exact happens (.setLink s i .up) h

theorem step_mapStays (hs : s.closedOk) (hd : s.pending.head? ≠ some .deviceReset) (h : step s = .next t) : s.MapStays t := by
  unfold step at h
  split at h
  · next c rest hp =>
    have queue : s.MapStays { s with pending := rest } := .of_frame rfl rfl rfl rfl rfl rfl
    exact queue.trans (exec_mapStays (queue.closed hs) (fun e => hd (by simp [hp, e])) h)
  · unfold idle happening at h
    cases h
    split
    · dsimp only
      split
      · exact .tickPart s _
      · exact .refclk s
    · exact .refl s

/-- Settles O59: the map stays through every command but a device reset, and through an idle step. -/
theorem aClosedMapStaysAsItIs : Obligations.AClosedMapStaysAsItIs := by
  unfold Obligations.AClosedMapStaysAsItIs
  intro s t hs hd h
  have stays := step_mapStays hs hd h
  exact ⟨stays.closed hs, stays.mapKeptFrom⟩

end Sys2Proof.Machine
end

section
/-! Discarded: what the delivered commands do does not depend on the engine, so that a discarded result leaves the whole effect
(O28). -/

namespace Sys2Proof.Machine

-- One proof after the other, as in the tests: together they would take too many threads, and their stacks too much memory.
set_option Elab.async false

section Operations

variable (s : State) (e : Engine)

/-! ### Operations that neither read nor change the engine

Each is said as an equation that takes the change of the engine to the end. -/

theorem State.setEngine_post (m : MasterId) (b : NoticeBody) : (s.setEngine e).post m b = (s.post m b).setEngine e := by
  unfold State.post
  rw [(State.setEngine_derived s e).2.2.1 m]
  split <;> rfl

/-- Where every step of a fold takes the change of the engine to its end, the fold does. -/
theorem State.setEngine_foldl {α : Type} {f : State → α → State}
    (h : ∀ (s : State) a, f (s.setEngine e) a = (f s a).setEngine e) (l : List α) : l.foldl f (s.setEngine e) = (l.foldl f s).setEngine e := by
  induction l generalizing s with
  | nil => rfl
  | cons a l ih => rw [List.foldl_cons, h, ih, List.foldl_cons]

theorem State.setEngine_postEach (ms : List MasterId) (b : NoticeBody) :
    (s.setEngine e).postEach ms b = (s.postEach ms b).setEngine e :=
  s.setEngine_foldl e (fun s m => s.setEngine_post e m b) ms

theorem State.setEngine_finishRetirement (w : WindowId) :
    (s.setEngine e).finishRetirement w = (s.finishRetirement w).setEngine e := by
  unfold State.finishRetirement
  rw [State.setEngine_window]
  split
  · dsimp only
    split
    · exact State.setEngine_post (s.setWindow w WindowRecord.freeRecord) e _ _
    · rfl
  · rfl

theorem State.setEngine_countFalls (w : WindowId) : (s.setEngine e).countFalls w = (s.countFalls w).setEngine e :=
  State.setEngine_finishRetirement (s.setWindow w { s.window w with inFlight := (s.window w).inFlight - 1 }) e w

theorem State.setEngine_bindingEnds (w : Option WindowId) : (s.setEngine e).bindingEnds w = (s.bindingEnds w).setEngine e := by
  cases w with
  | none => rfl
  | some w => exact s.setEngine_countFalls e w

theorem State.setEngine_handOff (w : WindowId) : (s.setEngine e).handOff w = (s.handOff w).setEngine e := by
  unfold State.handOff
  rw [State.setEngine_lease, (State.setEngine_derived s e).1 w]
  split
  · dsimp only
    rw [← State.setEngine_post]
    rfl
  · rfl

theorem State.setEngine_markContention (w : WindowId) (m : MasterId) :
    (s.setEngine e).markContention w m = (s.markContention w m).setEngine e := by
  unfold State.markContention
  rw [State.setEngine_lease, State.setEngine_window]
  split
  · split
    · rw [← State.setEngine_post]
      rfl
    · rfl
  · rfl

theorem State.setEngine_rebindHead (m : MasterId) (b : Binding) :
    (s.setEngine e).rebindHead m b = (s.rebindHead m b).setEngine e := by
  unfold State.rebindHead
  rw [State.setEngine_port]
  split <;> rfl

theorem State.setEngine_bindHead (m : MasterId) (b : Binding) :
    (s.setEngine e).bindHead m b = (s.bindHead m b).setEngine e := by
  have begins (s : State) (w : Option WindowId) : (s.setEngine e).bindingBegins w = (s.bindingBegins w).setEngine e := by
    cases w <;> rfl
  unfold State.bindHead
  rw [State.setEngine_rebindHead, begins]
  exact State.setEngine_foldl _ e (fun _ _ => rfl) _

theorem State.setEngine_holdHead (m : MasterId) : (s.setEngine e).holdHead m = (s.holdHead m).setEngine e := by
  unfold State.holdHead
  rw [State.setEngine_port]
  split <;> rfl

/-! ### Fresh decisions and re-examinations (R17, R38) -/

/-- A steered decision reads nothing of the engine. -/
theorem State.setEngine_steered (m : MasterId) (r : Request) : (s.setEngine e).steered m r = s.steered m r := rfl

/-- Of the decisions only a control page access reaches the engine. -/
theorem State.setEngine_carryOut (m : MasterId) (r : Request) {d : Decision} (hd : d ≠ .controlPage) :
    (s.setEngine e).carryOut m r d = (s.carryOut m r d).setEngine e := by
  cases d with
  | controlPage => exact absurd rfl hd
  | heldElsewhere w => exact State.setEngine_markContention (s.refuseHead m r.tag .heldElsewhere) e w m
  | bind b => exact s.setEngine_bindHead e m b
  | waitAtLimit => exact s.setEngine_holdHead e m
  | refuse _ | fill | discard => rfl

theorem State.setEngine_redecideHead (m : MasterId) : (s.setEngine e).redecideHead m = (s.redecideHead m).setEngine e := by
  unfold State.redecideHead
  rw [show (s.setEngine e).heldHead m = s.heldHead m from rfl]
  split
  · rw [State.setEngine_steered]
    exact s.setEngine_carryOut e m _ (State.steered_ne_controlPage s m _)
  · rfl

theorem State.setEngine_redecideHeads : (s.setEngine e).redecideHeads = s.redecideHeads.setEngine e :=
  s.setEngine_foldl e (fun s m => s.setEngine_redecideHead e m) _

theorem State.setEngine_redecideAfterFalls (before : State) :
    (s.setEngine e).redecideAfterFalls (before.setEngine e) = (s.redecideAfterFalls before).setEngine e := by
  unfold State.redecideAfterFalls
  rw [show (s.setEngine e).countFell (before.setEngine e) = s.countFell before from rfl]
  split
  · exact s.setEngine_redecideHeads e
  · rfl

theorem State.setEngine_reexamineHead (i : TargetId) (m : MasterId) :
    (s.setEngine e).reexamineHead i m = (s.reexamineHead i m).setEngine e := by
  unfold State.reexamineHead
  rw [(State.setEngine_derived s e).2.1 m]
  dsimp only
  split
  · split
    · split
      · rw [← State.setEngine_bindingEnds]
        rfl
      · rfl
    · split
      · rw [← State.setEngine_rebindHead]
        rfl
      · rfl
    · split
      · rw [← State.setEngine_bindingEnds]
        rfl
      · rfl
  · rfl

theorem State.setEngine_reexamine (i : TargetId) : (s.setEngine e).reexamine i = (s.reexamine i).setEngine e :=
  s.setEngine_foldl e (fun s m => s.setEngine_reexamineHead e i m) _

/-! ### Fences (R110 to R116) -/

theorem State.setEngine_tellRequesters (i : TargetId) (b : NoticeBody) :
    (s.setEngine e).tellRequesters i b = (s.tellRequesters i b).setEngine e := by
  unfold State.tellRequesters
  rw [State.setEngine_target, State.setEngine_postEach]
  rfl

theorem State.setEngine_enterFence (i : TargetId) (m : MasterId) :
    (s.setEngine e).enterFence i m = (s.enterFence i m).setEngine e := by
  unfold State.enterFence
  rw [State.setEngine_target]
  split
  · rw [show (s.setEngine e).enterState i .fenced = (s.enterState i .fenced).setEngine e from rfl, State.setEngine_reexamine,
      State.setEngine_post]
  · rw [← State.setEngine_reexamine]
    rfl

theorem State.setEngine_startFence (i : TargetId) (m : MasterId) :
    (s.setEngine e).startFence i m = (s.startFence i m).setEngine e := by
  unfold State.startFence
  rw [State.setEngine_enterFence, State.setEngine_redecideAfterFalls]

theorem State.setEngine_restore (i : TargetId) (left : TargetState) :
    (s.setEngine e).restore i left = (s.restore i left).setEngine e :=
  State.setEngine_postEach (s.setTarget i { s.target i with state := .online, consecutive := 0 }) e _ _

/-! ### The effects of the delivered commands -/

/-- The effect neither reads nor changes the engine. -/
def EngineBlind (effect : State → MasterId → Args → State × Reply) : Prop :=
  ∀ (s : State) (e : Engine) (m : MasterId) (a : Args),
    effect (s.setEngine e) m a = ((effect s m a).1.setEngine e, (effect s m a).2)

theorem State.window_setEngine : (s.setEngine e).window = s.window := rfl

theorem State.lease_setEngine : (s.setEngine e).lease = s.lease := rfl

theorem State.holder_setEngine : (s.setEngine e).holder = s.holder := rfl

theorem State.claimOf_setEngine : (s.setEngine e).claimOf = s.claimOf := rfl

theorem State.target_setEngine : (s.setEngine e).target = s.target := rfl

theorem EngineBlind.tableTaken {effect : State → MasterId → Args → State × Reply} (h : EngineBlind effect) :
    EngineBlind fun s m a => tableTaken (effect s m a) := fun s e m a => by
  simp only [Machine.tableTaken, h s e m a, State.setEngine_redecideHeads]

theorem engineBlind_defineWindow : EngineBlind defineWindowEffect := fun s e m a => by
  unfold defineWindowEffect
  rw [State.window_setEngine]
  (repeat' split) <;> rfl

theorem engineBlind_setRoute : EngineBlind setRouteEffect := fun s e m a => by
  unfold setRouteEffect
  rw [State.window_setEngine]
  (repeat' split) <;> rfl

theorem engineBlind_setAccess : EngineBlind setAccessEffect := fun s e m a => by
  unfold setAccessEffect
  rw [State.window_setEngine, State.lease_setEngine]
  (repeat' split) <;> rfl

theorem engineBlind_enableWindow : EngineBlind enableWindowEffect := fun s e m a => by
  unfold enableWindowEffect
  rw [State.window_setEngine]
  (repeat' split) <;> rfl

theorem engineBlind_disableWindow : EngineBlind disableWindowEffect := fun s e m a => by
  unfold disableWindowEffect
  rw [State.window_setEngine]
  (repeat' split) <;> rfl

theorem State.setEngine_forceOut (w : WindowId) (m : MasterId) :
    (s.setEngine e).forceOut w m = (s.forceOut w m).setEngine e := by
  unfold State.forceOut
  dsimp only
  rw [(State.setEngine_derived s e).1 w, ← State.setEngine_foldl _ e fun s c => s.setEngine_post e _ _]
  congr 1
  rw [State.holder_setEngine]
  split
  · rw [show (s.setEngine e).setLease w none = (s.setLease w none).setEngine e from rfl, State.setEngine_post]
    rfl
  · rfl

theorem State.setEngine_leaveTable (w : WindowId) (m : MasterId) :
    (s.setEngine e).leaveTable w m = ((s.leaveTable w m).1.setEngine e, (s.leaveTable w m).2) := by
  unfold State.leaveTable
  rw [State.setEngine_window]
  split
  · dsimp only
    rw [← State.setEngine_post]
    rfl
  · rfl

theorem engineBlind_retireWindow : EngineBlind retireWindowEffect := fun s e m a => by
  unfold retireWindowEffect
  rw [State.window_setEngine, State.lease_setEngine]
  simp only [State.setEngine_forceOut, State.setEngine_leaveTable]
  (repeat' split) <;> rfl

theorem engineBlind_setDefault : EngineBlind setDefaultEffect := fun s e m a => by
  unfold setDefaultEffect
  split <;> rfl

theorem engineBlind_queryWindow : EngineBlind queryWindowEffect := fun s e m a => by
  unfold queryWindowEffect
  split <;> rfl

theorem engineBlind_claim : EngineBlind claimEffect := fun s e m a => by
  unfold claimEffect State.joinQueue
  rw [State.window_setEngine, State.holder_setEngine, State.claimOf_setEngine, State.setEngine_claims]
  (repeat' split) <;> rfl

theorem engineBlind_renew : EngineBlind renewEffect := fun s e m a => by
  unfold renewEffect
  rw [State.lease_setEngine, show (s.setEngine e).ceilingRefuses = s.ceilingRefuses from rfl]
  (repeat' split) <;> rfl

theorem engineBlind_release : EngineBlind releaseEffect := fun s e m a => by
  have ended (w : WindowId) : (s.setEngine e).endLease w = (s.endLease w).setEngine e :=
    State.setEngine_handOff (s.setLease w none) e w
  unfold releaseEffect
  simp only [ended, State.holder_setEngine]
  (repeat' split) <;> rfl

theorem engineBlind_withdraw : EngineBlind withdrawEffect := fun s e m a => by
  unfold withdrawEffect
  rw [State.claimOf_setEngine]
  (repeat' split) <;> rfl

theorem engineBlind_revoke : EngineBlind revokeEffect := fun s e m a => by
  unfold revokeEffect
  rw [State.holder_setEngine]
  repeat' split
  · rfl
  · rfl
  · dsimp only
    rw [← State.setEngine_handOff, ← State.setEngine_post]
    rfl

theorem engineBlind_setTick : EngineBlind setTickEffect := fun s e m a => by
  unfold setTickEffect
  split <;> rfl

theorem engineBlind_setTarget : EngineBlind setTargetEffect := fun s e m a => by
  unfold setTargetEffect
  (repeat' split) <;> rfl

theorem engineBlind_queryTarget : EngineBlind queryTargetEffect := fun s e m a => by
  unfold queryTargetEffect
  (repeat' split) <;> rfl

theorem engineBlind_fence : EngineBlind fenceEffect := fun s e m a => by
  unfold fenceEffect
  rw [State.target_setEngine]
  simp only [State.setEngine_startFence]
  (repeat' split) <;> rfl

theorem engineBlind_unfence : EngineBlind unfenceEffect := fun s e m a => by
  unfold unfenceEffect
  rw [State.target_setEngine]
  simp only [State.setEngine_tellRequesters, State.setEngine_restore]
  (repeat' split) <;> rfl

end Operations

/-! ### The result that is discarded (R134, R135) -/

variable {s t : State} {m : MasterId} {a : Args}

/-- The state with the result of the command under way to be discarded. -/
def State.discarding (s : State) (m : MasterId) (c : Command) (a : Args) : State :=
  s.setEngine { s.engine with underWay := some ⟨m, c, a, true⟩ }

/-- An effect that is blind to the engine leaves it. -/
theorem EngineBlind.engine {effect : State → MasterId → Args → State × Reply} (h : EngineBlind effect) (s : State)
    (m : MasterId) (a : Args) : (effect s m a).1.engine = s.engine :=
  congrArg (fun p : State × Reply => p.1.engine) (h s s.engine m a)

/-- The happening whose result is discarded ends as the other one does, but for the slots. -/
theorem EngineBlind.discards {k : Command} {effect : State → MasterId → Args → State × Reply} (hb : EngineBlind effect)
    (h : s.delivered m k a) (ht : (happening s fun s => s.takeDelivered k effect) = .next t) :
    (happening (s.discarding m k a) fun s => s.takeDelivered k effect) =
      .next { t with engine := { t.engine with slots := s.engine.slots } } := by
  rw [takeDelivered_delivered _ h] at ht
  cases ht
  have taken : (s.discarding m k a).takeDelivered k effect =
      (effect (s.discarding m k a) m a).1.finishCommand ⟨m, k, a, true⟩ (effect (s.discarding m k a) m a).2 := by
    simp [State.takeDelivered, State.discarding]
  rw [happening_released _ (show (s.discarding m k a).rstN = .released from h.1), taken, finishCommand_discarded,
    show s.discarding m k a = s.setEngine { s.engine with underWay := some ⟨m, k, a, true⟩ } from rfl, hb]
  simp only [State.answered, State.setEngine, hb.engine]

/-- Settles O28: the effect of every delivered command is blind to the engine. -/
theorem aDiscardedResultLeavesTheEffect : Obligations.ADiscardedResultLeavesTheEffect := by
  unfold Obligations.ADiscardedResultLeavesTheEffect
  intro c k s t m a hc h ht
  change exec c (s.discarding m k a) = _
  have onTable {effect : State → MasterId → Args → State × Reply} (hb : EngineBlind effect) :
      happening s (fun s => s.takeDelivered k fun s m a => tableTaken (effect s m a)) = .next t → _ := hb.tableTaken.discards h
  have atBlock {effect : State → MasterId → Args → State × Reply} (hb : EngineBlind effect) :
      happening s (fun s => s.takeDelivered k effect) = .next t → _ := hb.discards h
  unfold exec at ht ⊢
  cases c with
  | defineWindow => cases hc; exact onTable engineBlind_defineWindow ht
  | setRoute => cases hc; exact onTable engineBlind_setRoute ht
  | setAccess => cases hc; exact onTable engineBlind_setAccess ht
  | enableWindow => cases hc; exact onTable engineBlind_enableWindow ht
  | disableWindow => cases hc; exact onTable engineBlind_disableWindow ht
  | retireWindow => cases hc; exact onTable engineBlind_retireWindow ht
  | setDefault => cases hc; exact onTable engineBlind_setDefault ht
  | queryWindow => cases hc; exact onTable engineBlind_queryWindow ht
  | claim => cases hc; exact atBlock engineBlind_claim ht
  | renew => cases hc; exact atBlock engineBlind_renew ht
  | release => cases hc; exact atBlock engineBlind_release ht
  | withdraw => cases hc; exact atBlock engineBlind_withdraw ht
  | revoke => cases hc; exact atBlock engineBlind_revoke ht
  | setTick => cases hc; exact atBlock engineBlind_setTick ht
  | setTarget => cases hc; exact atBlock engineBlind_setTarget ht
  | queryTarget => cases hc; exact atBlock engineBlind_queryTarget ht
  | fenceTarget => cases hc; exact atBlock engineBlind_fence ht
  | unfenceTarget => cases hc; exact atBlock engineBlind_unfence ht
  | _ => cases hc

end Sys2Proof.Machine
end

section
/-! SetupRight: the take of a slot, and the commands that the engine carries out itself (O29 to O32). -/

namespace Sys2Proof.Machine

-- One proof after the other, as in the tests: together they would take too many threads, and their stacks too much memory.
set_option Elab.async false

variable {s : State} {m : MasterId} {c : Command}

/-! ### The take (R132, R133) -/

/-- The part as a take begins: the master is last served. -/
def State.serving (s : State) (m : MasterId) : State := s.setEngine { s.engine with lastServed := m }

section Take

variable (hc : commandOf (s.slot m).code = some c)

include hc

/-- A command that its class refuses is answered and does nothing. -/
theorem takeSlot_refused {r : Result} (hk : classCheck s.engine.setup m c.permission = some r) :
    s.takeSlot m = s.served m s.engine.setup r [] := by
  unfold State.takeSlot
  simp only [hc, hk]
  rfl

/-- A permitted command of another block is delivered to it. -/
theorem takeSlot_delivered (hk : classCheck s.engine.setup m c.permission = none) (ho : c.engineOwned = false) :
    s.takeSlot m = { s with engine :=
      { setup := s.engine.setup, lastServed := m, underWay := some ⟨m, c, (s.slot m).args, false⟩,
        slots := s.engine.slots.put m { s.slot m with state := .executing } } } := by
  unfold State.takeSlot
  simp only [hc, hk, ho]
  rfl

/-- A permitted command of the engine's own is carried out and answered, where it makes `s'` of the part (by a notice, if by
anything) and `setup` of the setup right. -/
theorem takeSlot_own (hk : classCheck s.engine.setup m c.permission = none) (ho : c.engineOwned = true) {s' : State}
    {setup : SetupRight} {r : Result} {words : List Nat}
    (he : (s.serving m).engineEffect c m (s.slot m).args = ((s'.serving m).setSetup setup, ⟨r, words⟩)) :
    s.takeSlot m = s'.served m setup r words := by
  unfold State.serving at he
  unfold State.takeSlot
  simp only [hc, hk, ho, if_true, he]
  rfl

end Take

theorem take_refused {code : BitVec 8} {r : Result} (h : s.takes m code) (hc : commandOf code = some c)
    (hk : classCheck s.engine.setup m c.permission = some r) :
    exec .commandTake s = .next (s.served m s.engine.setup r []) := by
  obtain ⟨released, next, rfl⟩ := h
  rw [commandTake_next released next, takeSlot_refused hc hk]

theorem take_own {code : BitVec 8} (h : s.takes m code) (hc : commandOf code = some c)
    (hk : classCheck s.engine.setup m c.permission = none) (ho : c.engineOwned = true) {s' : State} {setup : SetupRight}
    {r : Result} {words : List Nat}
    (he : (s.serving m).engineEffect c m (s.slot m).args = ((s'.serving m).setSetup setup, ⟨r, words⟩)) :
    exec .commandTake s = .next (s'.served m setup r words) := by
  obtain ⟨released, next, rfl⟩ := h
  rw [commandTake_next released next, takeSlot_own hc hk ho he]

/-- The setup right as it stands. -/
theorem State.serving_setSetup {setup : SetupRight} (h : s.engine.setup = setup) :
    (s.serving m).setSetup setup = s.serving m := by
  subst h
  rfl

/-! ### TAKE_SETUP (R122) -/

theorem takeSetup_open (h : s.takes m 0x01#8) (hs : s.engine.setup = .open) :
    exec .commandTake s = .next (s.served m (.held m) .ok [m.val]) := by
  refine take_own (c := .takeSetup) h rfl rfl rfl ?_
  simp only [State.engineEffect, State.takeSetup, State.serving, State.setEngine_engine, hs]
  rfl

/-- A right that is held stays with its holder, and the caller is told whether that is itself. -/
theorem takeSetup_held (h : s.takes m 0x01#8) {k : MasterId} (hs : s.engine.setup = .held k) :
    exec .commandTake s = .next (s.served m (.held k) (if k = m then .already else .setupHeld) [k.val]) := by
  refine take_own (c := .takeSetup) h rfl rfl rfl ?_
  rw [State.serving_setSetup hs]
  simp only [State.engineEffect, State.takeSetup, State.serving, State.setEngine_engine, hs]
  rfl

theorem takeSetup_closed (h : s.takes m 0x01#8) (hs : s.engine.setup = .closed) :
    exec .commandTake s = .next (s.served m .closed .setupClosed [0xFF]) := by
  refine take_own (c := .takeSetup) h rfl rfl rfl ?_
  rw [State.serving_setSetup hs]
  simp only [State.engineEffect, State.takeSetup, State.serving, State.setEngine_engine, hs]
  rfl

/-- Settles O29: the take by the state of the right, and the second take from the state that the first leaves. -/
theorem takeSetupTakesAnOpenRight : Obligations.TakeSetupTakesAnOpenRight := by
  unfold Obligations.TakeSetupTakesAnOpenRight
  intro s m h
  have elsewhere {s : State} {m k : MasterId} (h : s.takes m 0x01#8) (hk : k ≠ m) (hs : s.engine.setup = .held k) :
      exec .commandTake s = .next (s.served m (.held k) .setupHeld [k.val]) := by
    rw [takeSetup_held h hs, if_neg hk]
  refine ⟨takeSetup_open h, fun hs => ?_, fun k => elsewhere h, takeSetup_closed h, fun k t hs ht hk h' => ?_⟩
  · rw [takeSetup_held h hs, if_pos rfl]
  · rw [takeSetup_open h hs] at ht
    cases ht
    exact elsewhere h' hk.symm rfl

/-! ### HAND_SETUP and CLOSE_SETUP (R123, R125) -/

/-- The holder is permitted every class (R128). -/
theorem classCheck_holder (hs : s.engine.setup = .held m) (k : CommandClass) : classCheck s.engine.setup m k = none := by
  cases k <;> simp [classCheck, hs]

theorem handSetup_badField (hs : s.engine.setup = .held m) (h : s.takes m 0x02#8)
    (ha : 3 < argNat (s.slot m).args 0 ∨ argNat (s.slot m).args 0 = m.val) :
    exec .commandTake s = .next (s.served m (.held m) .badField []) := by
  refine take_own (c := .handSetup) h rfl (classCheck_holder hs _) rfl ?_
  rw [State.serving_setSetup hs]
  rcases ha with ha | ha
  · simp only [State.engineEffect, State.handSetup, argFin_eq_none ha]
  · simp only [State.engineEffect, State.handSetup, argFin_eq_some m ha, if_true]

section Hand

variable {k : MasterId} (hs : s.engine.setup = .held m) (h : s.takes m 0x02#8) (hk : k ≠ m)
  (ha : argNat (s.slot m).args 0 = k.val)

include hs h hk ha

theorem handSetup_portDown (hl : (s.port k).link = .down) :
    exec .commandTake s = .next (s.served m (.held m) .portDown []) := by
  refine take_own (c := .handSetup) h rfl (classCheck_holder hs _) rfl ?_
  rw [State.serving_setSetup hs]
  simp only [State.engineEffect, State.handSetup, argFin_eq_some k ha, if_neg hk]
  exact if_pos hl

/-- The notice goes out as the right passes; posting it touches no engine. -/
theorem handSetup_hands (hl : (s.port k).link = .up) :
    exec .commandTake s = .next ((s.post k (.setupHanded m)).served m (.held k) .ok [k.val]) := by
  refine take_own (c := .handSetup) h rfl (classCheck_holder hs _) rfl ?_
  have up : ¬((s.serving m).port k).link = .down := by
    show ¬(s.port k).link = .down
    simp [hl]
  simp only [State.engineEffect, State.handSetup, argFin_eq_some k ha, if_neg hk, if_neg up]
  rw [State.serving, State.setSetup, State.setEngine_setEngine, State.setEngine_post]
  simp [State.serving, State.setSetup, masterField]

end Hand

/-- Settles O30: each command by what its check of the argument finds. -/
theorem handAndCloseSetup : Obligations.HandAndCloseSetup := by
  unfold Obligations.HandAndCloseSetup
  intro s m hs
  refine ⟨fun h => ⟨handSetup_badField hs h, fun k => handSetup_portDown hs h, fun k => handSetup_hands hs h⟩, fun h => ?_⟩
  exact take_own (c := .closeSetup) h rfl (classCheck_holder hs _) rfl rfl

/-! ### DROP_SETUP (R124) -/

/-- A setup class command of another than the holder is refused while the right is not CLOSED (R128). -/
theorem classCheck_notSetup (hs : s.engine.setup = .open ∨ ∃ h : MasterId, h ≠ m ∧ s.engine.setup = .held h) :
    classCheck s.engine.setup m .setup = some .notSetup := by
  rcases hs with hs | ⟨h, hm, hs⟩
  · rw [hs]
    rfl
  · simp only [classCheck, hs, if_neg hm]

/-- No fence class command is the engine's own. -/
theorem engineOwned_of_fence (h : c.permission = .fence) : c.engineOwned = false := by
  cases c with
  | fenceTarget | unfenceTarget => rfl
  | _ => cases h

/-- Settles O31: the drop by its class check, and then each class of command under an OPEN right. -/
theorem dropSetupOpensTheRight : Obligations.DropSetupOpensTheRight := by
  unfold Obligations.DropSetupOpensTheRight
  refine fun s m => ⟨fun h => ⟨fun hs => ?_, fun hs => ?_, fun hs => ?_⟩,
    fun hs hr hn => ⟨fun c hc hp => ?_, fun c hc hp => ?_⟩⟩
  · exact take_own (c := .dropSetup) h rfl (classCheck_holder hs _) rfl rfl
  · exact take_refused (c := .dropSetup) h rfl (classCheck_notSetup hs)
  · rw [take_refused (c := .dropSetup) (r := .setupClosed) h rfl (by rw [hs]; rfl), hs]
  · rw [commandTake_next hr hn, takeSlot_refused hc (hp ▸ classCheck_notSetup (.inl hs)), hs]
  · rw [commandTake_next hr hn, takeSlot_delivered hc (by rw [hp, hs]; rfl) (engineOwned_of_fence hp), hs]

/-! ### QUERY_SETUP (R127) -/

theorem querySetup_reports (h : s.takes m 0x05#8) :
    exec .commandTake s =
      .next (s.served m s.engine.setup .ok [s.engine.setup.code, masterField s.engine.setup.holder, m.val]) :=
  take_own (c := .querySetup) h rfl rfl rfl rfl

/-- Settles O32: the words of the query and of the status word, by the state of the right. -/
theorem querySetupReportsTheRight : Obligations.QuerySetupReportsTheRight := by
  unfold Obligations.QuerySetupReportsTheRight
  have status (s : State) (m : MasterId) : s.pageRead m .setupStatus =
      BitVec.ofNat 32 (s.engine.setup.code + masterField s.engine.setup.holder <<< 8) := rfl
  refine fun s m => ⟨fun h => ⟨fun hs => ?_, fun k hs => ?_, fun hs => ?_⟩, fun hs => ?_, fun k hs => ?_, fun hs => ?_⟩
  · rw [querySetup_reports h, hs]
    rfl
  · rw [querySetup_reports h, hs]
    rfl
  · rw [querySetup_reports h, hs]
    rfl
  · rw [status, hs]
    rfl
  · rw [status, hs]
    rfl
  · rw [status, hs]
    rfl

end Sys2Proof.Machine
end

section
/-! PageWrites: the control page writes that have an effect (O40). -/

namespace Sys2Proof.Machine

-- One proof after the other, as in the tests: together they would take too many threads, and their stacks too much memory.
set_option Elab.async false

variable {s : State} {m : MasterId} {r : Request} {v : Word}

/-! ### A well-formed write (R24, R162) -/

/-- A write of one word of the control page whose decision is due. -/
structure State.Writes (s : State) (m : MasterId) (r : Request) (v : Word) (p : PageWord) : Prop where
  decides : s.decides m r
  kind : r.kind = .write
  length : r.length = 4
  data : r.data = wordBytes v
  inPage : inControlPage r.address = true
  aligned : r.address.toNat % 4 = 0
  word : r.pageWord = p

section Write

variable {p : PageWord} (h : s.Writes m r v p)

include h

/-- The word's owner takes the write, and the request completes OK. -/
theorem State.Writes.steered :
    exec (.steeringDecision m) s = .next ((s.pageWrite m p v r.tag).returned m ⟨r.tag, .ok, none, []⟩) := by
  rw [steeringDecision_decides h.decides, decision_pageAccess h.inPage h.length h.aligned]
  simp only [State.carryOut, State.pageAccess, h.kind, h.word, h.data, bytesWord_wordBytes, completeHead_returned]

/-- CONTROL_PAGE_WRITE and STEERING_DECISION take the write of any word but the notice mask alike (log 14). -/
theorem State.Writes.taken (hp : p ≠ .noticeMask) {c : Instr} (hc : c = .controlPageWrite m ∨ c = .steeringDecision m) :
    exec c s = .next ((s.pageWrite m p v r.tag).returned m ⟨r.tag, .ok, none, []⟩) := by
  rcases hc with rfl | rfl
  · rw [controlPageWrite_decides h.decides h.inPage h.length h.aligned h.kind (by rwa [h.word]), h.steered]
  · exact h.steered

end Write

/-- NOTICE_MASK_WRITE takes the write of the notice mask as STEERING_DECISION does (log 14). -/
theorem State.Writes.maskTaken (h : s.Writes m r v .noticeMask) {c : Instr}
    (hc : c = .noticeMaskWrite m ∨ c = .steeringDecision m) :
    exec c s = .next ((s.pageWrite m .noticeMask v r.tag).returned m ⟨r.tag, .ok, none, []⟩) := by
  rcases hc with rfl | rfl
  · have due : s.duePageAccess m .write (fun w => decide (w = .noticeMask)) = true := by
      simp [State.duePageAccess, h.decides.2, h.inPage, Request.pageAccessOk, h.length, h.aligned, h.kind, h.word]
    rw [← h.steered, exec_steeringDecision h.decides.1]
    refine (happening_released _ h.decides.1).trans ?_
    rw [if_pos due]
  · exact h.steered

/-! ### The words that a write changes (R130, R144) -/

theorem Slot.accepts_of {sl : Slot} (h : sl.state = .idle ∨ sl.state = .done) : sl.accepts = true := by
  simpa [Slot.accepts] using h

theorem Slot.not_accepts {sl : Slot} (h : sl.state = .pending ∨ sl.state = .executing) : ¬sl.accepts = true := by
  rcases h with h | h <;> simp [Slot.accepts, h]

theorem pageWrite_go (hg : v.getLsbD 31 = true) (h : (s.slot m).state = .idle ∨ (s.slot m).state = .done) (tag : Tag) :
    s.pageWrite m .command v tag = s.setSlot m ((s.slot m).go v) :=
  (if_pos hg).trans (if_pos (Slot.accepts_of h))

theorem pageWrite_goWhileBusy (hg : v.getLsbD 31 = true) (h : (s.slot m).state = .pending ∨ (s.slot m).state = .executing)
    (tag : Tag) : s.pageWrite m .command v tag = s.post m (.protocolFault .goWhileBusy tag) :=
  (if_pos hg).trans (if_neg (Slot.not_accepts h))

theorem pageWrite_withoutGo (hg : v.getLsbD 31 = false) (tag : Tag) : s.pageWrite m .command v tag = s :=
  if_neg (ne_true_of_eq_false hg)

theorem pageWrite_argument (h : (s.slot m).state = .idle ∨ (s.slot m).state = .done) (i : Fin 10) (tag : Tag) :
    s.pageWrite m (.argument i) v tag = s.setSlot m { s.slot m with args := (s.slot m).args.put i v } :=
  if_pos (Slot.accepts_of h)

theorem pageWrite_argumentWhileBusy (h : (s.slot m).state = .pending ∨ (s.slot m).state = .executing) (i : Fin 10) (tag : Tag) :
    s.pageWrite m (.argument i) v tag = s :=
  if_neg (Slot.not_accepts h)

/-- Where the argument words stand in the control page (R162). -/
theorem argument_address (i : Fin 10) :
    let a := 0xFFFFF004#32 + BitVec.ofNat 32 (4 * i.val)
    inControlPage a = true ∧ a.toNat % 4 = 0 ∧ pageWordAt (pageOffset a) = .argument i := by
  revert i
  decide

/-- Settles O40: each write by the word at its address, and by the state of the slot. -/
theorem controlPageWritesTakeEffect : Obligations.ControlPageWritesTakeEffect := by
  unfold Obligations.ControlPageWritesTakeEffect
  intro s m r v hd hk hl hv sl
  have writes {a : Word} {p : PageWord} (ha : r.address = a)
      (hp : inControlPage a = true ∧ a.toNat % 4 = 0 ∧ pageWordAt (pageOffset a) = p) : s.Writes m r v p := by
    subst ha
    obtain ⟨inPage, aligned, word⟩ := hp
    exact ⟨hd, hk, hl, hv, inPage, aligned, word⟩
  have command (ha : r.address = 0xFFFFF000#32) : s.Writes m r v .command := writes ha (by decide)
  refine ⟨fun c hc ha => ?_, fun c hc => ⟨fun ha hg hs => ?_, fun ha hg hs => ?_, fun ha hg => ?_,
    fun i ha => ⟨fun hs => ?_, fun hs => ?_⟩⟩⟩
  · exact (writes ha (by decide)).maskTaken hc
  · rw [(command ha).taken (by simp) hc, pageWrite_go hg hs]
    rfl
  · rw [(command ha).taken (by simp) hc, pageWrite_goWhileBusy hg hs]
  · rw [(command ha).taken (by simp) hc, pageWrite_withoutGo hg]
  · rw [(writes ha (argument_address i)).taken (by simp) hc, pageWrite_argument hs]
  · rw [(writes ha (argument_address i)).taken (by simp) hc, pageWrite_argumentWhileBusy hs]

end Sys2Proof.Machine
end

section
/-! Notices: what becomes of a notice that is posted (O10). -/

namespace Sys2Proof.Machine

-- One proof after the other, as in the tests: together they would take too many threads, and their stacks too much memory.
set_option Elab.async false

variable {s : State} {m : MasterId}

/-! ### A notice arrives at an event queue (R141, R142) -/

section Arrive

variable {q : EventQueue} (n : Notice)

theorem EventQueue.arrive_open (ho : q.overflow = none) (hl : q.real.length < 15) : q.arrive n = ⟨q.real ++ [n], none⟩ := by
  simp only [EventQueue.arrive, ho, Config.realNotices, if_pos hl]

theorem EventQueue.arrive_full (ho : q.overflow = none) (hl : 15 ≤ q.real.length) :
    q.arrive n = ⟨q.real, some ⟨n.seq, 1⟩⟩ := by
  simp only [EventQueue.arrive, ho, Config.realNotices, if_neg (Nat.not_lt.mpr hl)]

theorem EventQueue.arrive_overflowed {o : Overflow} (ho : q.overflow = some o) :
    q.arrive n = ⟨q.real, some ⟨o.seq, min (o.count + 1) 65535⟩⟩ := by
  simp only [EventQueue.arrive, ho, Config.maxOverflow]

end Arrive

/-! ### A notice is posted (R138, R140) -/

theorem State.post_heard (hl : (s.port m).link = .up) (hc : (s.port m).cleanup = .clear) (b : NoticeBody) :
    s.post m b = s.setUnit m ((s.unit m).arrive b) :=
  if_pos (by simp [State.hears, hl, hc])

theorem State.post_unheard (h : (s.port m).link = .down ∨ (s.port m).cleanup ≠ .clear) (b : NoticeBody) : s.post m b = s :=
  if_neg (by rcases h with h | h <;> simp [State.hears, h])

/-- Settles O10: a port that hears has its queue take the notice by one of the queue's three cases. -/
theorem postingANotice : Obligations.PostingANotice := by
  unfold Obligations.PostingANotice
  intro s m b
  refine ⟨fun h => State.post_unheard h b, fun hl hc => ⟨(s.unit m).queue.arrive ⟨(s.unit m).nextSeq, b⟩, ?_, ?_, ?_, ?_⟩⟩
  · exact State.post_heard hl hc b
  · exact EventQueue.arrive_open _
  · exact EventQueue.arrive_full _
  · exact fun o => EventQueue.arrive_overflowed _

end Sys2Proof.Machine
end

section
/-! EventPort: the read of event port word 0 (O39). -/

namespace Sys2Proof.Machine

-- One proof after the other, as in the tests: together they would take too many threads, and their stacks too much memory.
set_option Elab.async false

variable {s : State} {m : MasterId} {r : Request}

/-! ### The pop (R143, R144) -/

section Pop

variable {u : NoticeUnit}

theorem NoticeUnit.pop_real {n : Notice} {rest : List Notice} (h : u.queue.real = n :: rest) :
    u.pop = NoticeUnit.refresh { u with
      queue := ⟨rest, u.queue.overflow⟩
      view := some ⟨n, (EventQueue.toList ⟨rest, u.queue.overflow⟩).length⟩ } := by
  simp only [NoticeUnit.pop, h]

theorem NoticeUnit.pop_overflow {o : Overflow} (hr : u.queue.real = []) (ho : u.queue.overflow = some o) :
    u.pop = NoticeUnit.refresh { u with queue := ⟨[], none⟩, view := some ⟨o.notice, 0⟩ } := by
  simp only [NoticeUnit.pop, hr, ho]

theorem NoticeUnit.pop_empty (hr : u.queue.real = []) (ho : u.queue.overflow = none) : u.pop = { u with view := none } := by
  simp only [NoticeUnit.pop, hr, ho]

end Pop

/-! ### The access (R24, R131) -/

/-- EVENT_PORT_READ takes the head that reads event port word 0, as STEERING_DECISION does (log 14). -/
theorem eventPortRead_decides (h : s.decides m r) (hp : inControlPage r.address = true) (hl : r.length = 4)
    (ha : r.address.toNat % 4 = 0) (hk : r.kind = .read) (hw : r.pageWord = .eventPort0) :
    exec (.eventPortRead m) s = exec (.steeringDecision m) s := by
  have due : s.duePageAccess m .read (fun w => decide (w = .eventPort0)) = true := by
    simp [State.duePageAccess, h.2, hp, Request.pageAccessOk, hl, ha, hk, hw]
  rw [exec_steeringDecision h.1]
  refine (happening_released _ h.1).trans ?_
  rw [if_pos due]

/-- A read of event port word 0 pops, and returns the first word of the view that the pop latches. -/
theorem pageAccess_eventPort0 (hk : r.kind = .read) (hw : r.pageWord = .eventPort0) :
    s.pageAccess m r = (s.setUnit m (s.unit m).pop).returned m ⟨r.tag, .ok, none, wordBytes (viewWord0 (s.unit m).pop.view)⟩ := by
  simp [State.pageAccess, hk, hw, State.pageReadEffect, State.pageRead, completeHead_returned]

/-- The two rows that take a read of event port word 0 (log 14). -/
theorem eventPort0_read {c : Instr} (h : s.decides m r) (hk : r.kind = .read) (hl : r.length = 4) (ha : r.address = 0xFFFFF100#32)
    (hc : c = .eventPortRead m ∨ c = .steeringDecision m) :
    exec c s = .next
      ((s.setUnit m (s.unit m).pop).returned m ⟨r.tag, .ok, none, wordBytes (viewWord0 (s.unit m).pop.view)⟩) := by
  have inPage : inControlPage r.address = true := by rw [ha]; decide
  have aligned : r.address.toNat % 4 = 0 := by rw [ha]; decide
  have word : r.pageWord = .eventPort0 := by rw [Request.pageWord, ha]; decide
  have steered : exec (.steeringDecision m) s = .next (s.pageAccess m r) := by
    rw [steeringDecision_decides h, decision_pageAccess inPage hl aligned]
    rfl
  rw [← pageAccess_eventPort0 hk word, ← steered]
  rcases hc with rfl | rfl
  · exact eventPortRead_decides h inPage hl aligned hk word
  · rfl

/-- Settles O39: the access pops, and the pop has one case for each kind of oldest notice. -/
theorem eventPortReadPopsTheOldest : Obligations.EventPortReadPopsTheOldest := by
  unfold Obligations.EventPortReadPopsTheOldest
  intro s m r c h hk hl ha hc u popped
  rw [eventPort0_read h hk hl ha hc]
  refine ⟨fun n rest hr => ?_, fun o hr ho => ?_, fun hr ho => ?_⟩
  · rw [NoticeUnit.pop_real hr]; rfl
  · rw [NoticeUnit.pop_overflow hr ho]; rfl
  · rw [NoticeUnit.pop_empty hr ho]; rfl

end Sys2Proof.Machine
end

section
/-! Numbering: what a step can do to an event queue and its interrupt line, said once, and that it keeps them legal (O57). -/

namespace Sys2Proof.Machine

-- One proof after the other, as in the tests: together they would take too many threads, and their stacks too much memory.
set_option Elab.async false

variable {s t u : State}

/-! ### Sequence numbers (R139) -/

theorem numberedUpTo_append (l : List Notice) (n : Notice) (next : BitVec 16) :
    numberedUpTo (l ++ [n]) next = (numberedUpTo l n.seq && decide (n.seq + 1 = next)) := by
  induction l with
  | nil => rfl
  | cons k l ih =>
    cases l with
    | nil => rfl
    | cons k' l =>
      simp only [List.cons_append, numberedUpTo, Bool.and_assoc]
      rw [← ih]
      rfl

/-- What is left behind the oldest notice is still numbered without a gap. -/
theorem numberedUpTo_tail {n : Notice} {l : List Notice} {next : BitVec 16} (h : numberedUpTo (n :: l) next = true) :
    numberedUpTo l next = true := by
  cases l with
  | nil => rfl
  | cons k l => exact (Bool.and_eq_true_iff.mp h).2

/-- An event queue by itself, with the number that the next notice takes (R139, R141); `NoticeUnit.ok` says it of a master's
queue. -/
def EventQueue.legal (q : EventQueue) (next : BitVec 16) : Prop :=
  q.real.length ≤ 15 ∧ (∀ n ∈ q.real, n.body.kind ≠ .overflow) ∧
  match q.overflow with
  | none => numberedUpTo q.real next = true
  | some o => numberedUpTo q.real o.seq = true ∧ (1 ≤ o.count ∧ o.count ≤ 65535) ∧
      (o.count = 65535 ∨ o.seq + BitVec.ofNat 16 o.count = next)

theorem NoticeUnit.ok_iff (v : NoticeUnit) :
    v.ok ↔ v.queue.legal v.nextSeq ∧ v.line = lineOf v.queue v.mask ∧ v.mask.getLsbD 0 = false ∧ ∀ w ∈ v.view, w.left ≤ 15 := by
  unfold NoticeUnit.ok NoticeUnit.numbered EventQueue.legal
  cases v.queue.overflow with
  | none => simp [Config.realNotices, and_assoc]
  | some o =>
    simp only [Option.mem_some_iff, forall_eq', Bool.and_eq_true, Bool.or_eq_true, decide_eq_true_eq]
    simp only [Config.realNotices, Config.maxOverflow]
    tauto

/-- A notice that takes the next number leaves the queue legal up to the number after it, in each of the queue's three cases. -/
theorem EventQueue.legal.arrive {q : EventQueue} {n : Notice} (h : q.legal n.seq) (hk : n.body.kind ≠ .overflow) :
    (q.arrive n).legal (n.seq + 1) := by
  obtain ⟨hlen, hreal, hnum⟩ := h
  cases ho : q.overflow with
  | none =>
    simp only [ho] at hnum
    by_cases hl : q.real.length < 15
    · rw [EventQueue.arrive_open n ho hl]
      refine ⟨by simpa using hl, fun k hm => ?_, by simp [numberedUpTo_append, hnum]⟩
      rcases List.mem_append.mp hm with hm | hm
      · exact hreal k hm
      · rw [List.mem_singleton.mp hm]; exact hk
    · rw [EventQueue.arrive_full n ho (Nat.not_lt.mp hl)]
      exact ⟨hlen, hreal, hnum, by simp, .inr rfl⟩
  | some o =>
    simp only [ho] at hnum
    obtain ⟨hseq, hcount, hnext⟩ := hnum
    rw [EventQueue.arrive_overflowed n ho]
    refine ⟨hlen, hreal, hseq, by dsimp only; omega, ?_⟩
    by_cases hsat : 65535 ≤ o.count + 1
    · exact .inl (Nat.min_eq_right hsat)
    · right
      have hn : o.seq + BitVec.ofNat 16 o.count = n.seq := hnext.resolve_left (by omega)
      rw [Nat.min_eq_left (by omega), BitVec.ofNat_add, ← BitVec.add_assoc, hn]
      rfl

/-- A legal queue stays legal without its oldest notice, and at most 15 notices, OVERFLOW among them, stand behind that one. -/
theorem EventQueue.legal.popped {n : Notice} {rest : List Notice} {o : Option Overflow} {next : BitVec 16}
    (h : EventQueue.legal ⟨n :: rest, o⟩ next) :
    EventQueue.legal ⟨rest, o⟩ next ∧ (EventQueue.toList ⟨rest, o⟩).length ≤ 15 := by
  obtain ⟨hlen, hreal, hnum⟩ := h
  have short : rest.length + 1 ≤ 15 := hlen
  refine ⟨⟨Nat.le_of_succ_le short, fun k hk => hreal k (List.mem_cons_of_mem n hk), ?_⟩, ?_⟩
  · cases o with
    | none => exact numberedUpTo_tail hnum
    | some o => exact ⟨numberedUpTo_tail hnum.1, hnum.2⟩
  · cases o <;> simp [EventQueue.toList] <;> omega

/-! ### One master's part of the notice unit -/

/-- What a happening can do to one master's part of the notice unit. -/
inductive NoticeUnit.Change : NoticeUnit → NoticeUnit → Prop
  /-- A notice of a kind other than OVERFLOW is numbered (R139). -/
  | arrives (v : NoticeUnit) {b : NoticeBody} (h : b.kind ≠ .overflow) : Change v (v.arrive b)
  /-- The oldest notice is read (R143). -/
  | popped (v : NoticeUnit) : Change v v.pop
  /-- The mask is written (R144). -/
  | masked (v : NoticeUnit) (w : Word) : Change v (v.writeMask w)
  /-- The part is reset, or its master cleaned up (R145, R146). -/
  | cleared (v : NoticeUnit) : Change v NoticeUnit.resetUnit

theorem NoticeUnit.ok.pop {v : NoticeUnit} (h : v.ok) : v.pop.ok := by
  obtain ⟨hq, hline, hmask, hview⟩ := v.ok_iff.mp h
  cases hr : v.queue.real with
  | cons n rest =>
    obtain ⟨hq', hleft⟩ := EventQueue.legal.popped (n := n) (rest := rest) (o := v.queue.overflow) (by rw [← hr]; exact hq)
    rw [NoticeUnit.pop_real hr, NoticeUnit.ok_iff]
    exact ⟨hq', rfl, hmask, by rintro w ⟨rfl⟩; exact hleft⟩
  | nil =>
    cases ho : v.queue.overflow with
    | some o =>
      rw [NoticeUnit.pop_overflow hr ho, NoticeUnit.ok_iff]
      exact ⟨⟨Nat.zero_le _, nofun, rfl⟩, rfl, hmask, by rintro w ⟨rfl⟩; exact Nat.zero_le _⟩
    | none =>
      rw [NoticeUnit.pop_empty hr ho, NoticeUnit.ok_iff]
      exact ⟨hq, hline, hmask, nofun⟩

theorem NoticeUnit.ok_resetUnit : NoticeUnit.resetUnit.ok := reset_unit 0 ▸ reset_noticesOk 0

/-- Every change keeps the queue, its numbers and the line legal. -/
theorem NoticeUnit.Change.keepsOk {v v' : NoticeUnit} (h : v.Change v') (hv : v.ok) : v'.ok := by
  obtain ⟨hq, -, hmask, hview⟩ := v.ok_iff.mp hv
  cases h with
  | arrives hk => exact (NoticeUnit.ok_iff _).mpr ⟨EventQueue.legal.arrive hq hk, rfl, hmask, hview⟩
  | popped => exact hv.pop
  | masked w => exact (NoticeUnit.ok_iff _).mpr ⟨hq, rfl, by simp [NoticeUnit.writeMask, NoticeUnit.refresh], hview⟩
  | cleared => exact NoticeUnit.ok_resetUnit

theorem NoticeUnit.ok_of_changes {v v' : NoticeUnit} (h : Relation.ReflTransGen NoticeUnit.Change v v') (hv : v.ok) :
    v'.ok := by
  induction h with
  | refl => exact hv
  | tail _ hc ih => exact hc.keepsOk ih

/-! ### The notice unit -/

/-- Between the two states each master's part of the notice unit goes through a sequence of changes. -/
def State.Notices (s t : State) : Prop := ∀ m, Relation.ReflTransGen NoticeUnit.Change (s.unit m) (t.unit m)

theorem State.Notices.noticesOk (h : s.Notices t) (hs : s.noticesOk) : t.noticesOk :=
  fun m => NoticeUnit.ok_of_changes (h m) (hs m)

/-- Where the notice unit stands, no notice moves. -/
theorem State.Notices.of_frame (h : t.notices = s.notices := by simp) : s.Notices t := by
  intro m
  rw [show t.unit m = s.unit m by simp [State.unit, h]]

theorem State.Notices.refl (s : State) : s.Notices s := fun _ => .refl

theorem State.Notices.trans (h : s.Notices t) (h' : t.Notices u) : s.Notices u := fun m => (h m).trans (h' m)

theorem State.Notices.foldl {α : Type} {f : State → α → State} (h : ∀ (s : State) a, s.Notices (f s a)) (l : List α)
    (s : State) : s.Notices (l.foldl f s) := by
  induction l generalizing s with
  | nil => exact .refl s
  | cons a l ih => exact (h s a).trans (ih _)

theorem State.Notices.setUnit {m : MasterId} {v : NoticeUnit} (h : (s.unit m).Change v) : s.Notices (s.setUnit m v) := by
  intro k
  rw [State.setUnit_unit]
  split
  · next e => exact e ▸ .single h
  · exact .refl

/-- A notice posted is numbered, or changes nothing (R138, R140). -/
theorem State.Notices.post (s : State) (m : MasterId) {b : NoticeBody} (h : b.kind ≠ .overflow := by nofun) :
    s.Notices (s.post m b) := by
  unfold State.post
  split
  · exact .setUnit (.arrives _ h)
  · exact .refl s

theorem State.Notices.postEach (s : State) (ms : List MasterId) {b : NoticeBody} (h : b.kind ≠ .overflow := by nofun) :
    s.Notices (s.postEach ms b) :=
  .foldl (fun s m => .post s m h) ms s

/-! ### Windows and leases -/

theorem State.Notices.finishRetirement (s : State) (w : WindowId) : s.Notices (s.finishRetirement w) := by
  have freed : s.Notices (s.setWindow w WindowRecord.freeRecord) := .of_frame
  unfold State.finishRetirement
  dsimp only
  split
  · split
    · exact freed.trans (.post _ _)
    · exact freed
  · exact .refl s

theorem State.Notices.countFalls (s : State) (w : WindowId) : s.Notices (s.countFalls w) :=
  State.Notices.trans .of_frame (.finishRetirement (s.setWindow w _) w)

theorem State.Notices.bindingEnds (s : State) (w : Option WindowId) : s.Notices (s.bindingEnds w) := by
  cases w with
  | none => exact .refl s
  | some w => exact .countFalls s w

theorem State.Notices.handOff (s : State) (w : WindowId) : s.Notices (s.handOff w) := by
  unfold State.handOff
  split
  · exact State.Notices.trans .of_frame (.post _ _)
  · exact .refl s

theorem State.Notices.endLease (s : State) (w : WindowId) : s.Notices (s.endLease w) :=
  State.Notices.trans .of_frame (.handOff (s.setLease w none) w)

/-- A lease ends with a notice to its holder, and the window is handed on. -/
theorem State.Notices.leaseTaken (s : State) (w : WindowId) (m : MasterId) {b : NoticeBody}
    (h : b.kind ≠ .overflow := by nofun) : s.Notices (((s.setLease w none).post m b).handOff w) :=
  State.Notices.trans (.of_frame (t := s.setLease w none)) ((State.Notices.post _ m h).trans (.handOff _ w))

theorem State.Notices.countLease (s : State) (w : WindowId) : s.Notices (s.countLease w) := by
  unfold State.countLease
  split
  · exact .refl s
  · next l _ =>
    split
    · have counted : s.Notices (s.setLease w (some l.countDown)) := .of_frame
      have told : s.Notices (if l.warns (l.remaining - 1) then
          (s.setLease w (some l.countDown)).post l.holder (.leaseWarning w (l.remaining - 1))
          else s.setLease w (some l.countDown)) := by
        split
        · exact counted.trans (.post _ _)
        · exact counted
      dsimp only
      split
      · exact told.trans (.leaseTaken _ w l.holder)
      · exact told
    · exact .refl s

theorem State.Notices.countClaim (s : State) (w : WindowId) (m : MasterId) : s.Notices (s.countClaim w m) := by
  unfold State.countClaim
  repeat' split
  · exact .refl s
  · exact State.Notices.trans .of_frame (.post (s.removeClaim w m) m)
  · exact .of_frame
  · exact .refl s

theorem State.Notices.takeOwedLeases (s : State) : s.Notices s.takeOwedLeases :=
  (State.Notices.foldl .countLease allWindows s).trans (.foldl (fun s (c : WaitingClaim) => .countClaim s c.window c.claimant) _ _)

/-! ### Steering decisions -/

theorem State.Notices.pageWrite (s : State) (m : MasterId) (w : PageWord) (v : Word) (tag : Tag) :
    s.Notices (s.pageWrite m w v tag) := by
  cases w with
  | command =>
    show s.Notices (s.writeCommandWord m v tag)
    unfold State.writeCommandWord
    repeat' split
    · exact .of_frame
    · exact .post s m
    · exact .refl s
  | argument i => exact .of_frame (t := s.writeArgument m i v)
  | noticeMask => exact .setUnit (.masked _ v)
  | _ => exact .refl s

theorem State.Notices.pageAccess (s : State) (m : MasterId) (r : Request) : s.Notices (s.pageAccess m r) := by
  have read : s.Notices (s.pageReadEffect m r.pageWord) := by
    unfold State.pageReadEffect
    split
    · exact .setUnit (.popped _)
    · exact .refl s
  unfold State.pageAccess
  split
  · exact read.trans .of_frame
  · exact (State.Notices.pageWrite s m r.pageWord (bytesWord r.data) r.tag).trans .of_frame

theorem State.Notices.markContention (s : State) (w : WindowId) (m : MasterId) : s.Notices (s.markContention w m) := by
  unfold State.markContention
  repeat' split
  · exact State.Notices.trans .of_frame (.post (s.setLease w _) _)
  · exact .refl s
  · exact .refl s

theorem State.Notices.carryOut (s : State) (m : MasterId) (r : Request) (d : Decision) : s.Notices (s.carryOut m r d) := by
  cases d with
  | controlPage => exact .pageAccess s m r
  | heldElsewhere w => exact State.Notices.trans .of_frame (.markContention (s.refuseHead m r.tag .heldElsewhere) w m)
  | refuse code => exact .of_frame (t := s.refuseHead m r.tag code)
  | fill | discard => exact .of_frame (t := s.completeHead m _)
  | bind b => exact .of_frame (t := s.bindHead m b)
  | waitAtLimit => exact .of_frame (t := s.holdHead m)

theorem State.Notices.decideHead (s : State) (m : MasterId) : s.Notices (s.decideHead m) := by
  unfold State.decideHead
  split
  · exact .carryOut s m _ _
  · exact .refl s

theorem State.Notices.redecideHead (s : State) (m : MasterId) : s.Notices (s.redecideHead m) := by
  unfold State.redecideHead
  split
  · exact .carryOut s m _ _
  · exact .refl s

theorem State.Notices.redecideHeads (s : State) : s.Notices s.redecideHeads := .foldl State.Notices.redecideHead _ _

theorem State.Notices.redecideAfterFalls (s before : State) : s.Notices (s.redecideAfterFalls before) := by
  unfold State.redecideAfterFalls
  split
  · exact .redecideHeads s
  · exact .refl s

/-! ### Target ports -/

theorem State.Notices.endMirror (s : State) (r : MirrorRecord) : s.Notices (s.endMirror r) := by
  have completed (st : CompletionStatus) : s.Notices (s.complete r.master ⟨r.tag, st, none, []⟩) := .of_frame
  refine State.Notices.trans ?_ (.countFalls _ r.window)
  split
  · exact .refl s
  · split
    · dsimp only
      split
      · exact (completed _).trans (.post _ _)
      · exact completed _
    · exact .refl s

theorem State.Notices.legEnds (s : State) (ref : LegRef) (i : TargetId) (x : Xid) (o : EndOutcome) :
    s.Notices (s.legEnds ref i x o) := by
  unfold State.legEnds
  dsimp only
  repeat' split
  · exact .refl s
  · exact State.Notices.trans .of_frame (.endMirror (s.setTarget ref.holder _) _)
  · exact .of_frame

theorem State.Notices.endTransaction (s : State) (i : TargetId) (x : Xid) (o : EndOutcome) (data : List Byte) :
    s.Notices (s.endTransaction i x o data) := by
  have freed : s.Notices (s.setTarget i ((s.target i).freeXid x)) := .of_frame
  unfold State.endTransaction
  split
  · exact .refl s
  · dsimp only
    split
    · exact freed.trans (.legEnds _ _ i x o)
    · refine State.Notices.trans (freed.trans ?_) (.bindingEnds _ _)
      split <;> exact .of_frame

theorem State.Notices.reexamineHead (s : State) (i : TargetId) (m : MasterId) : s.Notices (s.reexamineHead i m) := by
  have stopped : s.Notices (s.stopWaiting i m) := .of_frame
  rcases reexamineHead_cases s i m with ⟨-, he⟩ | ⟨r, b, code, -, -, -, he⟩ | ⟨r, b, t1, a1, t2, a2, -, -, -, -, he⟩
  · exact he ▸ stopped
  · exact he ▸ stopped.trans (State.Notices.trans .of_frame (.bindingEnds ((s.stopWaiting i m).refuseHead m r.tag code) _))
  · exact he ▸ stopped.trans .of_frame

theorem State.Notices.reexamine (s : State) (i : TargetId) : s.Notices (s.reexamine i) :=
  .foldl (fun s m => .reexamineHead s i m) _ _

theorem State.Notices.enterState (s : State) (i : TargetId) (st : TargetState) : s.Notices (s.enterState i st) := .of_frame

theorem State.Notices.joinRequesters (s : State) (i : TargetId) (m : MasterId) : s.Notices (s.joinRequesters i m) := .of_frame

theorem State.Notices.tellRequesters (s : State) (i : TargetId) {b : NoticeBody} (h : b.kind ≠ .overflow := by nofun) :
    s.Notices (s.tellRequesters i b) :=
  (State.Notices.postEach s (s.target i).requesters.members h).trans (.of_frame rfl)

theorem State.Notices.finishDrain (s : State) (i : TargetId) : s.Notices (s.finishDrain i) := by
  unfold State.finishDrain
  split
  · exact (State.Notices.enterState s i _).trans (.tellRequesters _ i)
  · exact .refl s

theorem State.Notices.faultByThreshold (s : State) (i : TargetId) : s.Notices (s.faultByThreshold i) :=
  (State.Notices.enterState s i .faulted).trans ((State.Notices.reexamine _ i).trans (.postEach _ _))

theorem State.Notices.endByTimeout (s : State) (i : TargetId) (x : Xid) : s.Notices (s.endByTimeout i x) := by
  have counted : s.Notices ((s.endTransaction i x .timeout []).countTimeout i) :=
    (State.Notices.endTransaction s i x .timeout []).trans .of_frame
  unfold State.endByTimeout
  dsimp only
  split
  · exact counted.trans (.faultByThreshold _ i)
  · exact counted.trans (.finishDrain _ i)

theorem State.Notices.countAge (s : State) (i : TargetId) (x : Xid) : s.Notices (s.countAge i x) := by
  unfold State.countAge
  split
  · exact .refl s
  · next r _ =>
    split
    · have counted : s.Notices
          (s.setTarget i { s.target i with records := (s.target i).records.put x (some r.count) }) := .of_frame
      dsimp only
      split
      · exact counted.trans ((State.Notices.endByTimeout _ i x).trans (.redecideAfterFalls _ _))
      · exact counted
    · exact .refl s

theorem State.Notices.takeAnswer (s : State) (i : TargetId) (f : AnswerFrame) : s.Notices (s.takeAnswer i f) := by
  have stray : s.Notices (s.countStray i) := .of_frame
  have noted : s.Notices (s.noteAnswer i f.status) := .of_frame
  unfold State.takeAnswer
  repeat' split
  · exact stray
  · exact noted.trans ((State.Notices.endTransaction _ i f.xid _ _).trans
      ((State.Notices.finishDrain _ i).trans (.redecideAfterFalls _ _)))
  · exact stray

theorem State.Notices.linkDown (s : State) (i : TargetId) : s.Notices (s.linkDown i) := by
  have lowered : s.Notices (s.setLink i .down) := .of_frame
  have lost : s.Notices ((s.setLink i .down).loseAll i) :=
    lowered.trans (.foldl (fun s x => .endTransaction s i x .targetLost []) _ _)
  have faulted := lost.trans ((State.Notices.enterState _ i .faulted).trans (.reexamine _ i))
  refine State.Notices.trans ?_ (.redecideAfterFalls _ s)
  unfold State.linkLost
  dsimp only
  split
  · exact faulted.trans ((State.Notices.postEach _ _).trans (.tellRequesters _ i))
  · exact faulted.trans (.postEach _ _)

/-! ### Fences -/

theorem State.Notices.startFence (s : State) (i : TargetId) (m : MasterId) : s.Notices (s.startFence i m) := by
  refine State.Notices.trans ?_ (.redecideAfterFalls _ s)
  unfold State.enterFence
  split
  · exact (State.Notices.enterState s i _).trans ((State.Notices.reexamine _ i).trans (.post _ m))
  · exact (State.Notices.enterState s i _).trans ((State.Notices.joinRequesters _ i m).trans (.reexamine _ i))

theorem State.Notices.fenceEffect (s : State) (m : MasterId) (a : Args) : s.Notices (fenceEffect s m a).1 := by
  unfold Machine.fenceEffect
  repeat' split
  · exact .refl s
  · exact .startFence s _ m
  · exact .startFence s _ m
  · exact .refl s
  · exact .joinRequesters s _ m
  · exact .refl s

theorem State.Notices.restore (s : State) (i : TargetId) (left : TargetState) : s.Notices (s.restore i left) :=
  State.Notices.trans .of_frame (.postEach (s.setTarget i _) _)

theorem State.Notices.unfenceEffect (s : State) (m : MasterId) (a : Args) : s.Notices (unfenceEffect s m a).1 := by
  unfold Machine.unfenceEffect
  repeat' split
  · exact .refl s
  · exact .refl s
  · exact .refl s
  · exact (State.Notices.tellRequesters s _).trans (.restore _ _ _)
  · exact .refl s
  · exact .restore s _ _
  · exact .restore s _ _
  · exact .refl s

/-! ### Ticks, ports and cleanups -/

theorem State.Notices.takeOwedAt (s : State) (b : TickBlock) : s.Notices (s.takeOwedAt b) := by
  cases b with
  | leases => exact .takeOwedLeases s
  | target i => exact .foldl (f := fun s x => s.countAge i x) (fun s x => .countAge s i x) _ _

theorem State.Notices.tickPart (s : State) (part : TickPart) : s.Notices (s.tickPart part) := by
  cases part with
  | emit => exact .of_frame (t := s.emitTick) rfl
  | arrive b =>
    show s.Notices (s.tickArrives b)
    unfold State.tickArrives
    split
    · exact .refl s
    · exact (State.Notices.takeOwedAt s b).trans .of_frame
  | lease w => exact .countLease s w
  | claim w m => exact .countClaim s w m
  | age i x => exact .countAge s i x

theorem State.Notices.refclk (s : State) : s.Notices s.refclk := by
  unfold State.refclk
  split <;> exact .of_frame rfl

theorem State.Notices.takeRequest (s : State) (m : MasterId) (f : RequestFrame) : s.Notices (s.takeRequest m f) := by
  unfold State.takeRequest
  repeat' split
  · exact .post s m
  · exact .of_frame
  · exact .of_frame

theorem State.Notices.startCleanup (s : State) (m : MasterId) : s.Notices (s.startCleanup m) := by
  have emptied : s.Notices (s.setPort m (s.port m).emptied) := .of_frame
  have lowered := emptied.trans (.foldl .countFalls ((s.port m).inbound.filterMap Request.boundWindow) _)
  exact (lowered.trans (.of_frame (t := s.takeOwnPart m) rfl)).trans (.redecideAfterFalls _ s)

theorem State.Notices.takePart (m : MasterId) (b : CleanupBlock) {part : State → State} (h : s.Notices (part s)) :
    s.Notices (s.takePart m b part) := by
  unfold State.takePart
  split
  · exact h.trans .of_frame
  · exact .refl s

theorem State.Notices.cleanLeases (s : State) (m : MasterId) : s.Notices (s.cleanLeases m) := by
  have dropped (s : State) (w : WindowId) : s.Notices (s.dropLease m w) := by
    unfold State.dropLease
    split
    · exact .endLease s w
    · exact .refl s
  have unclaimed : s.Notices (s.setClaims (s.claims.filter fun c => decide (c.claimant ≠ m))) := .of_frame
  have handed : s.Notices (s.leasesHanded m) := unclaimed.trans (.foldl dropped allWindows _)
  rw [cleanLeases_eq]
  exact handed.trans (.of_frame (by simp only [State.unreported]))

/-! ### The engine and the delivered commands -/

theorem State.Notices.engineEffect (s : State) (c : Command) (m : MasterId) (a : Args) :
    s.Notices (s.engineEffect c m a).1 := by
  have setup (r : SetupRight) : s.Notices (s.setSetup r) := .of_frame
  cases c with
  | takeSetup =>
    show s.Notices (s.takeSetup m).1
    unfold State.takeSetup
    split
    · exact setup _
    · exact .refl s
    · exact .refl s
  | handSetup =>
    show s.Notices (s.handSetup m a).1
    unfold State.handSetup
    repeat' split
    · exact .refl s
    · exact .refl s
    · exact .refl s
    · exact (setup _).trans (.post _ _)
  | dropSetup | closeSetup => exact setup _
  | _ => exact .refl s

theorem State.Notices.takeSlot (s : State) (m : MasterId) : s.Notices (s.takeSlot m) := by
  have served : s.Notices (s.setEngine { s.engine with lastServed := m }) := .of_frame
  unfold State.takeSlot
  dsimp only
  split
  · exact served.trans .of_frame
  · next c _ =>
    repeat' split
    · exact served.trans .of_frame
    · exact served.trans ((State.Notices.engineEffect _ c m (s.slot m).args).trans .of_frame)
    · exact served.trans .of_frame

theorem State.Notices.takeDelivered {k : Command} {effect : State → MasterId → Args → State × Reply}
    (h : ∀ m a, s.Notices (effect s m a).1) : s.Notices (s.takeDelivered k effect) := by
  unfold State.takeDelivered
  split
  · next u _ =>
    split
    · exact (h u.master u.args).trans .of_frame
    · exact .refl s
  · exact .refl s

theorem State.Notices.tableTaken {p : State × Reply} (h : s.Notices p.1) : s.Notices (tableTaken p).1 :=
  h.trans (.redecideHeads _)

theorem State.Notices.defineWindowEffect (s : State) (m : MasterId) (a : Args) : s.Notices (defineWindowEffect s m a).1 := by
  unfold Machine.defineWindowEffect
  repeat' split
  all_goals exact .of_frame rfl

theorem State.Notices.setRouteEffect (s : State) (m : MasterId) (a : Args) : s.Notices (setRouteEffect s m a).1 := by
  unfold Machine.setRouteEffect
  repeat' split
  all_goals exact .of_frame rfl

theorem State.Notices.setAccessEffect (s : State) (m : MasterId) (a : Args) : s.Notices (setAccessEffect s m a).1 := by
  unfold Machine.setAccessEffect
  repeat' split
  all_goals exact .of_frame rfl

theorem State.Notices.enableWindowEffect (s : State) (m : MasterId) (a : Args) : s.Notices (enableWindowEffect s m a).1 := by
  unfold Machine.enableWindowEffect
  repeat' split
  all_goals exact .of_frame rfl

theorem State.Notices.disableWindowEffect (s : State) (m : MasterId) (a : Args) : s.Notices (disableWindowEffect s m a).1 := by
  unfold Machine.disableWindowEffect
  repeat' split
  all_goals exact .of_frame rfl

theorem State.Notices.setDefaultEffect (s : State) (m : MasterId) (a : Args) : s.Notices (setDefaultEffect s m a).1 := by
  unfold Machine.setDefaultEffect
  split <;> exact .of_frame rfl

theorem State.Notices.queryWindowEffect (s : State) (m : MasterId) (a : Args) : s.Notices (queryWindowEffect s m a).1 := by
  unfold Machine.queryWindowEffect
  split <;> exact .refl s

theorem State.Notices.forceOut (s : State) (w : WindowId) (m : MasterId) : s.Notices (s.forceOut w m) := by
  unfold State.forceOut
  refine State.Notices.trans ?_ (.foldl (fun s (c : WaitingClaim) => .post s c.claimant) _ _)
  split
  · next h _ =>
    have ended : s.Notices (s.setLease w none) := .of_frame
    exact (ended.trans (.post _ h (b := .revoked w m))).trans .of_frame
  · exact .of_frame

theorem State.Notices.leaveTable (s : State) (w : WindowId) (m : MasterId) : s.Notices (s.leaveTable w m).1 := by
  unfold State.leaveTable
  split
  · exact State.Notices.trans .of_frame (.post (s.setWindow w _) m)
  · exact .of_frame

theorem State.Notices.retireWindowEffect (s : State) (m : MasterId) (a : Args) : s.Notices (retireWindowEffect s m a).1 := by
  unfold Machine.retireWindowEffect
  repeat' split
  · exact .refl s
  · exact .refl s
  · exact .refl s
  · exact (State.Notices.forceOut s _ m).trans (.leaveTable _ _ m)
  · exact .refl s
  · exact .leaveTable s _ m

theorem State.Notices.claimEffect (s : State) (m : MasterId) (a : Args) : s.Notices (claimEffect s m a).1 := by
  unfold Machine.claimEffect State.joinQueue
  repeat' split
  all_goals exact .of_frame rfl

theorem State.Notices.renewEffect (s : State) (m : MasterId) (a : Args) : s.Notices (renewEffect s m a).1 := by
  unfold Machine.renewEffect
  repeat' split
  all_goals exact .of_frame rfl

theorem State.Notices.releaseEffect (s : State) (m : MasterId) (a : Args) : s.Notices (releaseEffect s m a).1 := by
  unfold Machine.releaseEffect
  repeat' split
  · exact .refl s
  · exact .refl s
  · exact .endLease s _

theorem State.Notices.withdrawEffect (s : State) (m : MasterId) (a : Args) : s.Notices (withdrawEffect s m a).1 := by
  unfold Machine.withdrawEffect
  repeat' split
  all_goals exact .of_frame rfl

theorem State.Notices.revokeEffect (s : State) (m : MasterId) (a : Args) : s.Notices (revokeEffect s m a).1 := by
  unfold Machine.revokeEffect
  repeat' split
  · exact .refl s
  · exact .refl s
  · exact .leaseTaken s _ _

theorem State.Notices.setTickEffect (s : State) (m : MasterId) (a : Args) : s.Notices (setTickEffect s m a).1 := by
  unfold Machine.setTickEffect
  split <;> exact .of_frame rfl

theorem State.Notices.setTargetEffect (s : State) (m : MasterId) (a : Args) : s.Notices (setTargetEffect s m a).1 := by
  unfold Machine.setTargetEffect
  repeat' split
  all_goals exact .of_frame rfl

theorem State.Notices.queryTargetEffect (s : State) (m : MasterId) (a : Args) : s.Notices (queryTargetEffect s m a).1 := by
  unfold Machine.queryTargetEffect
  repeat' split
  all_goals exact .of_frame rfl

/-! ### Every step -/

/-- Every command changes each master's part of the notice unit by a sequence of changes. -/
theorem exec_notices {c : Instr} (h : exec c s = .next t) : s.Notices t := by
  have happens {effect : State → State} (he : s.Notices (effect s)) (h : happening s effect = .next t) : s.Notices t := by
    unfold happening at h
    cases h
    split
    · exact he
    · exact .refl s
  have onTable {k : Command} {effect : State → MasterId → Args → State × Reply} (he : ∀ m a, s.Notices (effect s m a).1) :
      happening s (fun s => s.takeDelivered k fun s m a => tableTaken (effect s m a)) = .next t → s.Notices t :=
    happens (.takeDelivered fun m a => .tableTaken (he m a))
  unfold exec at h
  cases c with
  | deviceReset =>
    cases h
    intro m
    exact .single (reset_unit m ▸ NoticeUnit.Change.cleared (s.unit m))
  | rstNRelease =>
    unfold execRstNRelease at h
    cases h
    split <;> exact .of_frame rfl
  | tick part => exact happens (.tickPart s part) h
  | expired w =>
    refine happens ?_ h
    split
    · exact .countLease s w
    · exact .refl s
  | handoff w => exact happens (.handOff s w) h
  | claimLapsed w m =>
    refine happens ?_ h
    split
    · exact .countClaim s w m
    · exact .refl s
  | timeout i x =>
    refine happens ?_ h
    split
    · exact .countAge s i x
    · exact .refl s
  | requestFrame m f =>
    refine happens ?_ h
    split
    · exact .takeRequest s m f
    · exact .refl s
  | portReset m =>
    refine happens ?_ h
    split
    · exact .startCleanup s m
    · exact .refl s
  | linkDrop m =>
    have lowered : s.Notices (s.lowerPort m) := .of_frame
    refine happens ?_ h
    split
    · exact lowered.trans (.startCleanup _ m)
    · exact lowered
  | masterLinkTrains m => exact happens (.of_frame rfl) h
  | cleanupEnginePart m =>
    refine happens ?_ h
    exact .takePart m _ .of_frame
  | cleanupNoticePart m =>
    refine happens ?_ h
    exact .takePart m _ (.setUnit (.cleared _))
  | cleanupLeasePart m =>
    refine happens ?_ h
    exact .takePart m _ (.cleanLeases s m)
  | cleanupWindowPart m =>
    refine happens ?_ h
    exact .takePart m _ .of_frame
  | cleanupTargetPart m i =>
    refine happens ?_ h
    exact .takePart m _ .of_frame
  | steeringDecision m => exact happens (.decideHead s m) h
  | eventPortRead m | noticeMaskWrite m | controlPageWrite m =>
    refine happens ?_ h
    split
    · exact .decideHead s m
    · exact .refl s
  | commandTake =>
    refine happens ?_ h
    split
    · exact .takeSlot s _
    · exact .refl s
  | defineWindow => exact onTable (.defineWindowEffect s) h
  | setRoute => exact onTable (.setRouteEffect s) h
  | setAccess => exact onTable (.setAccessEffect s) h
  | enableWindow => exact onTable (.enableWindowEffect s) h
  | disableWindow => exact onTable (.disableWindowEffect s) h
  | retireWindow => exact onTable (.retireWindowEffect s) h
  | windowRetired w => exact happens (.finishRetirement s w) h
  | setDefault => exact onTable (.setDefaultEffect s) h
  | queryWindow => exact onTable (.queryWindowEffect s) h
  | claim => exact happens (.takeDelivered (.claimEffect s)) h
  | renew => exact happens (.takeDelivered (.renewEffect s)) h
  | release => exact happens (.takeDelivered (.releaseEffect s)) h
  | withdraw => exact happens (.takeDelivered (.withdrawEffect s)) h
  | revoke => exact happens (.takeDelivered (.revokeEffect s)) h
  | setTick => exact happens (.takeDelivered (.setTickEffect s)) h
  | setTarget => exact happens (.takeDelivered (.setTargetEffect s)) h
  | queryTarget => exact happens (.takeDelivered (.queryTargetEffect s)) h
  | fenceTarget => exact happens (.takeDelivered (.fenceEffect s)) h
  | unfenceTarget => exact happens (.takeDelivered (.unfenceEffect s)) h
  | fenceDone i => exact happens (.finishDrain s i) h
  | xidGrant i => exact happens (.of_frame (t := s.xidGrant i)) h
  | mirrorXidGrant i => exact happens (.of_frame (t := s.mirrorXidGrant i)) h
  | targetCompletion i f =>
    refine happens ?_ h
    split
    · exact .takeAnswer s i f
    · exact .refl s
  | targetLinkDown i =>
    refine happens ?_ h
    split
    · exact .linkDown s i
    · exact .refl s
  | targetLinkTrains i => exact happens (.of_frame (t := s.setLink i .up)) h

theorem step_notices (h : step s = .next t) : s.Notices t := by
  unfold step at h
  split at h
  · next c rest _ =>
    have queue : s.Notices { s with pending := rest } := .of_frame rfl
    exact queue.trans (exec_notices h)
  · unfold idle happening at h
    cases h
    split
    · dsimp only
      split
      · exact .tickPart s _
      · exact .refclk s
    · exact .refl s

/-- Settles O57: every step is a sequence of changes of each master's part, and every change keeps the part legal. -/
theorem everyStepKeepsTheNoticesNumbered : Obligations.EveryStepKeepsTheNoticesNumbered := by
  unfold Obligations.EveryStepKeepsTheNoticesNumbered
  exact fun s t hs h => (step_notices h).noticesOk hs

end Sys2Proof.Machine
end

section
/-! RequestFrames: what a master port does with a request frame (O47, O48). -/

namespace Sys2Proof

/-! ### The request rules (R152) -/

variable {f : RequestFrame}

theorem RequestFrame.lengthOk_iff : f.lengthOk = true ↔ 1 ≤ f.length ∧ f.length ≤ 64 := by simp [RequestFrame.lengthOk]

/-- A request of 1 to 64 bytes stays within one aligned block when its first and last bytes lie in the same. -/
theorem RequestFrame.withinBlock_iff (h : f.lengthOk = true) :
    f.withinBlock = true ↔ f.address.toNat / 64 = (f.address.toNat + f.length - 1) / 64 := by
  rw [RequestFrame.lengthOk_iff] at h
  simp only [RequestFrame.withinBlock, decide_eq_true_eq]
  omega

theorem RequestFrame.dataOk_iff :
    f.dataOk = true ↔ (f.kind = .write → f.data.length = f.length) ∧ (f.kind = .read → f.data = []) := by
  unfold RequestFrame.dataOk
  cases f.kind <;> simp

/-- A request keeps the rules of R152 exactly when it breaks none of the four. -/
theorem RequestFrame.wellFormed_iff : f.wellFormed = true ↔
    f.length ≠ 0 ∧ f.length ≤ 64 ∧ f.address.toNat / 64 = (f.address.toNat + f.length - 1) / 64 ∧
    (f.kind = .write → f.data.length = f.length) ∧ (f.kind = .read → f.data = []) := by
  rw [← RequestFrame.dataOk_iff, RequestFrame.wellFormed, Bool.and_eq_true, Bool.and_eq_true]
  constructor
  · rintro ⟨⟨hl, hb⟩, hd⟩
    obtain ⟨h1, h64⟩ := RequestFrame.lengthOk_iff.mp hl
    exact ⟨Nat.ne_of_gt h1, h64, (RequestFrame.withinBlock_iff hl).mp hb, hd⟩
  · rintro ⟨h1, h64, hb, hd⟩
    have hl := RequestFrame.lengthOk_iff.mpr ⟨Nat.pos_of_ne_zero h1, h64⟩
    exact ⟨⟨hl, (RequestFrame.withinBlock_iff hl).mpr hb⟩, hd⟩

theorem RequestFrame.wellFormed_eq_false_iff : f.wellFormed = false ↔
    f.length = 0 ∨ 64 < f.length ∨ f.address.toNat / 64 ≠ (f.address.toNat + f.length - 1) / 64 ∨
    (f.kind = .write ∧ f.data.length ≠ f.length) ∨ (f.kind = .read ∧ f.data ≠ []) := by
  rw [← Bool.not_eq_true, RequestFrame.wellFormed_iff]
  simp only [not_and_or, not_not, not_le, Classical.not_imp, ne_eq]

end Sys2Proof

namespace Sys2Proof.Machine

/-! ### The take of a frame (R150 to R154) -/

variable {s : State} {m : MasterId} {f : RequestFrame}

theorem MasterPort.takesRequests_iff {p : MasterPort} :
    p.takesRequests = true ↔ p.link = .up ∧ p.cleanup = .clear ∧ p.inbound.length < 8 := by
  change _ ↔ _ ∧ _ ∧ p.inbound.length < Config.inboundPlaces
  simp [MasterPort.takesRequests, and_assoc]

/-- Flow control holds a frame at the master (R150). -/
theorem exec_requestFrame_held (h : ¬ (s.port m).takesRequests = true) : exec (.requestFrame m f) s = .next s := by
  simp [exec, execRequestFrame, happening, h]

theorem exec_requestFrame_taken (hr : s.rstN = .released) (h : (s.port m).takesRequests = true) :
    exec (.requestFrame m f) s = .next (s.takeRequest m f) := by
  simp [exec, execRequestFrame, happening_released _ hr, h]

theorem takeRequest_clash (h : (s.port m).tags.get f.tag = .outstanding) :
    s.takeRequest m f = s.post m (.protocolFault .tagClash f.tag) := if_pos h

theorem takeRequest_malformed (h : (s.port m).tags.get f.tag = .free) (hf : f.wellFormed = false) :
    s.takeRequest m f = (s.markTag m f.tag).complete m (refusal f.tag .malformed) := by
  simp [State.takeRequest, h, hf]

theorem takeRequest_wellFormed (h : (s.port m).tags.get f.tag = .free) (hf : f.wellFormed = true) :
    s.takeRequest m f = (s.markTag m f.tag).enqueue m (requestOf f) := by
  simp [State.takeRequest, h, hf]

/-- A tag marked OUTSTANDING and completed at once is FREE as it was, and only the completion is left (R152). -/
theorem complete_markTag (h : (s.port m).tags.get f.tag = .free) (code : RefusalCode) :
    (s.markTag m f.tag).complete m (refusal f.tag code) = s.sendToMaster m (refusal f.tag code) := by
  have freed : ((s.port m).tags.put f.tag .outstanding).put f.tag .free = (s.port m).tags := by
    rw [Table.put_put_same, ← h, Table.put_get_self]
  calc (s.markTag m f.tag).complete m (refusal f.tag code)
    _ = (s.sendToMaster m (refusal f.tag code)).setPort m
          { s.port m with tags := ((s.port m).tags.put f.tag .outstanding).put f.tag .free } := by
        simp [State.complete, State.markTag, State.setPort, State.sendToMaster, State.port, refusal]
    _ = (s.sendToMaster m (refusal f.tag code)).setPort m ((s.sendToMaster m (refusal f.tag code)).port m) := by rw [freed]; rfl
    _ = s.sendToMaster m (refusal f.tag code) := State.setPort_port_self _ m

/-- Settles O47: flow control, the tag and the request rules decide what becomes of a frame. -/
theorem aRequestFrameIsTaken : Obligations.ARequestFrameIsTaken := by
  unfold Obligations.ARequestFrameIsTaken
  intro s m f hr
  refine ⟨fun held => exec_requestFrame_held ?_, fun hl hc hi => ?_⟩
  · rw [MasterPort.takesRequests_iff]
    rintro ⟨hl, hc, hi⟩
    rcases held with hd | hu | hf
    · rw [hl] at hd; cases hd
    · exact hu hc
    · omega
  · rw [exec_requestFrame_taken hr (MasterPort.takesRequests_iff.mpr ⟨hl, hc, hi⟩)]
    refine ⟨fun ht => by rw [takeRequest_clash ht], fun ht hf => ?_⟩
    rw [takeRequest_wellFormed ht hf]
    simp [State.markTag, State.enqueue, requestOf]

/-- Settles O48: the four request rules, and the completion that a frame which breaks one is given at once. -/
theorem aMalformedRequestIsRefused : Obligations.AMalformedRequestIsRefused := by
  unfold Obligations.AMalformedRequestIsRefused
  intro f
  refine ⟨RequestFrame.wellFormed_eq_false_iff, fun s m hr hl hc hi ht hf => ?_⟩
  rw [exec_requestFrame_taken hr (MasterPort.takesRequests_iff.mpr ⟨hl, hc, hi⟩), takeRequest_malformed ht hf,
    complete_markTag ht]
  rfl

end Sys2Proof.Machine
end

section
/-! Tags: every step keeps each OUTSTANDING tag with the one request that carries it (O56). Between the moment a request leaves
the place that carries it, or its tag is marked, and its completion or its next place, one tag is OUTSTANDING and carried
nowhere: `TagsBut` names that tag. -/

namespace Sys2Proof.Machine

-- One proof after the other, as in the tests: together they would take too many threads, and their stacks too much memory.
set_option Elab.async false

variable {s t u : State}

/-! ### Who carries a tag (R154, R156) -/

/-- The present generation of each master port (R148). -/
def State.generations (s : State) (m : MasterId) : Nat := (s.port m).generation

/-- The master and tag of an outstanding record, unless it is a leg's or an orphan's. -/
def OutRecord.owner (gen : MasterId → Nat) (r : OutRecord) : Option (MasterId × Tag) :=
  if r.leg = none ∧ r.generation = gen r.master then some (r.master, r.tag) else none

/-- The master and tag of a mirror record, unless it is an orphan's. -/
def MirrorRecord.owner (gen : MasterId → Nat) (r : MirrorRecord) : Option (MasterId × Tag) :=
  if r.generation = gen r.master then some (r.master, r.tag) else none

/-- The master and tag of the record that holds an xid at a target port. -/
def TargetPort.ownerAt (p : TargetPort) (gen : MasterId → Nat) (x : Xid) : Option (MasterId × Tag) :=
  (p.record x).bind (OutRecord.owner gen)

/-- The masters and tags of the transactions that a target port carries. -/
def TargetPort.owners (p : TargetPort) (gen : MasterId → Nat) : List (MasterId × Tag) :=
  allXids.filterMap (p.ownerAt gen) ++ p.mirrors.filterMap (MirrorRecord.owner gen)

/-- No record of a target port is of a generation later than its master port's. -/
def TargetPort.NotLater (p : TargetPort) (gen : MasterId → Nat) : Prop :=
  (∀ x, ∀ r ∈ p.record x, r.generation ≤ gen r.master) ∧ ∀ r ∈ p.mirrors, r.generation ≤ gen r.master

theorem OutRecord.owner_eq_some {gen : MasterId → Nat} {r : OutRecord} {m : MasterId} {tag : Tag} :
    r.owner gen = some (m, tag) ↔ r.holdsTag m tag (gen m) = true := by
  simp only [OutRecord.owner, OutRecord.holdsTag, Bool.and_eq_true, decide_eq_true_eq, Option.isNone_iff_eq_none,
    Option.ite_none_right_eq_some, Option.some.injEq, Prod.mk.injEq]
  grind

theorem MirrorRecord.owner_eq_some {gen : MasterId → Nat} {r : MirrorRecord} {m : MasterId} {tag : Tag} :
    r.owner gen = some (m, tag) ↔ r.holdsTag m tag (gen m) = true := by
  simp only [MirrorRecord.owner, MirrorRecord.holdsTag, Bool.and_eq_true, decide_eq_true_eq,
    Option.ite_none_right_eq_some, Option.some.injEq, Prod.mk.injEq]
  grind

/-- A target port counts a tag once for each record of its master, tag and present generation. -/
theorem TargetPort.count_owners (p : TargetPort) (gen : MasterId → Nat) (m : MasterId) (tag : Tag) :
    (p.owners gen).count (m, tag) = (allXids.filter fun x => (p.record x).any fun r => r.holdsTag m tag (gen m)).length +
      (p.mirrors.filter fun r => r.holdsTag m tag (gen m)).length := by
  have atXid (x : Xid) : (p.ownerAt gen x == some (m, tag)) = (p.record x).any fun r => r.holdsTag m tag (gen m) := by
    unfold TargetPort.ownerAt
    cases p.record x with
    | none => rfl
    | some r => rw [Bool.eq_iff_iff, beq_iff_eq]; exact OutRecord.owner_eq_some
  have atMirror (r : MirrorRecord) : (r.owner gen == some (m, tag)) = r.holdsTag m tag (gen m) := by
    rw [Bool.eq_iff_iff, beq_iff_eq]; exact MirrorRecord.owner_eq_some
  simp only [TargetPort.owners, List.count_append, List.count_filterMap, List.countP_eq_length_filter, atXid, atMirror]

/-- The requests that a tag of a master belongs to: the sum that R154 is about. -/
def State.holdersOf (s : State) (m : MasterId) (tag : Tag) : Nat :=
  s.queuedWith m tag + s.outstandingWith m tag + s.mirrorsWith m tag

theorem State.holdersOf_eq (s : State) (m : MasterId) (tag : Tag) : s.holdersOf m tag =
    ((s.port m).inbound.map (·.tag)).count tag +
      (allTargets.map fun i => ((s.target i).owners s.generations).count (m, tag)).sum := by
  have queued : s.queuedWith m tag = ((s.port m).inbound.map (·.tag)).count tag := by
    rw [State.queuedWith, ← List.countP_eq_length_filter, List.count, List.countP_map]
    rfl
  simp only [State.holdersOf, queued, State.outstandingWith, State.mirrorsWith, TargetPort.count_owners, State.generations,
    allTargets, List.map_cons, List.map_nil, List.sum_cons, List.sum_nil]
  omega

/-- The owners of a port's transactions after one record and the mirror records have changed. -/
theorem TargetPort.count_owners_put {p q : TargetPort} {x : Xid} {v : Option OutRecord} (hr : q.records = p.records.put x v)
    (gen : MasterId → Nat) (k : MasterId × Tag) :
    (q.owners gen).count k + (p.ownerAt gen x).toList.count k + (p.mirrors.filterMap (MirrorRecord.owner gen)).count k =
      (p.owners gen).count k + (v.bind (OutRecord.owner gen)).toList.count k +
        (q.mirrors.filterMap (MirrorRecord.owner gen)).count k := by
  have asSum (f : Xid → Option (MasterId × Tag)) (l : List Xid) :
      (l.filterMap f).count k = (l.map fun y => (f y).toList.count k).sum := by
    induction l with
    | nil => rfl
    | cons y l ih => cases h : f y <;> simp [h, ih, List.count_cons, Nat.add_comm]
  have h := sum_map_change (f := fun y => (q.ownerAt gen y).toList.count k) (g := fun y => (p.ownerAt gen y).toList.count k)
    (l := allXids) (List.nodup_finRange 16) (mem_allXids x) fun y hy => by
      simp [TargetPort.ownerAt, TargetPort.record, hr, Ne.symm hy]
  have hx : q.ownerAt gen x = v.bind (OutRecord.owner gen) := by simp [TargetPort.ownerAt, TargetPort.record, hr]
  rw [hx] at h
  simp only [TargetPort.owners, List.count_append, asSum]
  omega

theorem TargetPort.count_owners_mirrors (p : TargetPort) (ms : List MirrorRecord) (gen : MasterId → Nat) (k : MasterId × Tag) :
    (TargetPort.owners { p with mirrors := ms } gen).count k + (p.mirrors.filterMap (MirrorRecord.owner gen)).count k =
      (p.owners gen).count k + (ms.filterMap (MirrorRecord.owner gen)).count k := by
  simp only [TargetPort.owners, List.count_append]
  show _ + _ + _ = (List.filterMap (TargetPort.ownerAt { p with mirrors := ms } gen) allXids).count k + _ + _
  omega

/-- A record that is removed takes its owner with it. -/
theorem TargetPort.count_owners_freeXid {p : TargetPort} {x : Xid} {r : OutRecord} (h : p.record x = some r)
    (gen : MasterId → Nat) (k : MasterId × Tag) :
    ((p.freeXid x).owners gen).count k + (r.owner gen).toList.count k = (p.owners gen).count k := by
  have hr : p.ownerAt gen x = r.owner gen := by simp [TargetPort.ownerAt, h]
  have := TargetPort.count_owners_put (p := p) (q := p.freeXid x) (x := x) (v := none) rfl gen k
  rw [hr] at this
  simp only [Option.bind_none, Option.toList_none, List.count_nil, TargetPort.freeXid] at this ⊢
  omega

/-- A transaction that is given the next xid is carried from then on, by its record or by its mirror record. -/
theorem TargetPort.count_owners_granted {p : TargetPort} {x : Xid} {xs : List Xid} (h : p.xidsOk) (hf : p.freeList = x :: xs)
    (o : OutRecord) (m : MasterId) (held : List MirrorRecord) (gen : MasterId → Nat) (k : MasterId × Tag) :
    ((p.granted x o m held).owners gen).count k =
      (p.owners gen).count k + ((o.owner gen).toList ++ held.filterMap (MirrorRecord.owner gen)).count k := by
  have hx : p.ownerAt gen x = none := by simp [TargetPort.ownerAt, (h.2 x).mp (by simp [hf])]
  have := TargetPort.count_owners_put (p := p) (q := p.granted x o m held) (x := x) (v := some o) rfl gen k
  rw [hx, show (p.granted x o m held).mirrors = p.mirrors ++ held from rfl] at this
  simp only [Option.bind_some, Option.toList_none, List.count_nil, List.filterMap_append, List.count_append] at this ⊢
  omega

theorem TargetPort.NotLater.mirrors {p : TargetPort} {gen : MasterId → Nat} (h : p.NotLater gen) {ms : List MirrorRecord}
    (hm : ∀ r ∈ ms, ∃ q ∈ p.mirrors, q.generation = r.generation ∧ q.master = r.master) :
    TargetPort.NotLater { p with mirrors := ms } gen :=
  ⟨h.1, fun r hr => by obtain ⟨q, hq, hg, hk⟩ := hm r hr; rw [← hg, ← hk]; exact h.2 q hq⟩

theorem TargetPort.NotLater.freeXid {p : TargetPort} {gen : MasterId → Nat} (h : p.NotLater gen) (x : Xid) :
    (p.freeXid x).NotLater gen := by
  refine ⟨fun y r hr => h.1 y r ?_, h.2⟩
  simp only [TargetPort.record, TargetPort.freeXid, Table.get_put] at hr
  split at hr
  · cases hr
  · exact hr

theorem TargetPort.NotLater.granted {p : TargetPort} {gen : MasterId → Nat} (h : p.NotLater gen) (x : Xid) {o : OutRecord}
    (m : MasterId) {held : List MirrorRecord} (ho : o.generation ≤ gen o.master)
    (hh : ∀ r ∈ held, r.generation ≤ gen r.master) : (p.granted x o m held).NotLater gen := by
  refine ⟨fun y r hr => ?_, fun r hr => (List.mem_append.mp hr).elim (h.2 r) (hh r)⟩
  simp only [TargetPort.record, TargetPort.granted, Table.get_put] at hr
  split at hr
  · cases hr; exact ho
  · exact h.1 y r hr

/-- No transaction of a target port is of a generation that has yet to begin. -/
theorem TargetPort.NotLater.count_owners {p : TargetPort} {gen gen' : MasterId → Nat} (h : p.NotLater gen) {m : MasterId}
    (hm : gen m < gen' m) (tag : Tag) : (p.owners gen').count (m, tag) = 0 := by
  rw [TargetPort.count_owners, Nat.add_eq_zero_iff]
  simp only [List.length_eq_zero_iff, List.filter_eq_nil_iff, Option.any_eq_true, not_exists, not_and]
  refine ⟨fun x _ r hr ht => ?_, fun r hr ht => ?_⟩
  · have := h.1 x r hr
    simp only [OutRecord.holdsTag, Bool.and_eq_true, decide_eq_true_eq] at ht
    obtain ⟨⟨⟨rfl, -⟩, hg⟩, -⟩ := ht
    omega
  · have := h.2 r hr
    simp only [MirrorRecord.holdsTag, Bool.and_eq_true, decide_eq_true_eq] at ht
    obtain ⟨⟨rfl, -⟩, hg⟩ := ht
    omega

/-- Two states of a target port carry the same transactions. -/
def TargetPort.SameBearers (p q : TargetPort) : Prop :=
  (∀ x, (q.record x).map OutRecord.steady = (p.record x).map OutRecord.steady) ∧ q.mirrors = p.mirrors

theorem TargetPort.SameTraffic.sameBearers {p q : TargetPort} (h : p.SameTraffic q) : p.SameBearers q := ⟨h.records, h.mirrors⟩

theorem TargetPort.SameBearers.owners {p q : TargetPort} (h : p.SameBearers q) (gen : MasterId → Nat) :
    q.owners gen = p.owners gen := by
  have bySteady (p : TargetPort) (x : Xid) :
      p.ownerAt gen x = ((p.record x).map OutRecord.steady).bind (OutRecord.owner gen) := by
    unfold TargetPort.ownerAt
    cases p.record x <;> rfl
  unfold TargetPort.owners
  rw [h.2, show q.ownerAt gen = p.ownerAt gen from funext fun x => by rw [bySteady, bySteady, h.1 x]]

theorem TargetPort.SameBearers.notLater {p q : TargetPort} (h : p.SameBearers q) {gen : MasterId → Nat} (hp : p.NotLater gen) :
    q.NotLater gen := by
  refine ⟨fun x r hr => ?_, h.2 ▸ hp.2⟩
  have hx := h.1 x
  rw [show q.record x = some r from hr] at hx
  cases hq : p.record x with
  | none => simp [hq] at hx
  | some r' =>
    rw [hq] at hx
    have hs : r.steady = r'.steady := Option.some.inj hx
    have := hp.1 x r' hq
    rwa [show r'.generation = r.generation from (congrArg OutRecord.generation hs).symm,
      show r'.master = r.master from (congrArg OutRecord.master hs).symm] at this

/-! ### Tags with a completion to come -/

/-- Every tag belongs to as many requests as its state says, but for one that is OUTSTANDING and carried nowhere. -/
structure State.TagsBut (s : State) (owed : Option (MasterId × Tag)) : Prop where
  xids : s.xidsOk
  count : ∀ m tag, s.holdersOf m tag + owed.toList.count (m, tag) = ((s.port m).tags.get tag).holders
  current : ∀ m, ∀ r ∈ (s.port m).inbound, r.current (s.generations m) = true
  notLater : ∀ i, (s.target i).NotLater s.generations

theorem State.tagsOk_iff (s : State) : s.tagsOk ↔ s.TagsBut none := by
  constructor
  · rintro ⟨hx, hn, hc, hr, hm⟩
    exact ⟨hx, hn, hc, fun i => ⟨hr i, hm i⟩⟩
  · rintro ⟨hx, hn, hc, hl⟩
    exact ⟨hx, hn, hc, fun i => (hl i).1, fun i => (hl i).2⟩

/-- The ports stand, and the target ports carry the same transactions. -/
theorem State.TagsBut.still {o : Option (MasterId × Tag)} (h : s.TagsBut o) (hx : t.xidsOk) (hp : t.ports = s.ports)
    (hg : ∀ i, (s.target i).SameBearers (t.target i)) : t.TagsBut o := by
  have port (m : MasterId) : t.port m = s.port m := by simp [State.port, hp]
  have gens : t.generations = s.generations := funext fun m => by simp [State.generations, port]
  refine ⟨hx, fun m tag => ?_, fun m => by rw [port, gens]; exact h.current m,
    fun i => by rw [gens]; exact (hg i).notLater (h.notLater i)⟩
  have := h.count m tag
  rw [State.holdersOf_eq] at this ⊢
  simpa only [port, gens, (hg _).owners] using this

theorem State.TagsBut.calm {o : Option (MasterId × Tag)} (h : s.TagsBut o) (hc : s.Calm t) (hp : t.ports = s.ports := by simp) :
    t.TagsBut o :=
  h.still (h.xids.calm hc) hp fun i => (hc.targets i).sameBearers

theorem State.TagsBut.countFalls {o : Option (MasterId × Tag)} (h : s.TagsBut o) (w : WindowId) : (s.countFalls w).TagsBut o :=
  h.still (h.xids.countFalls w) (by simp) fun i => by simpa using (TargetPort.SameTraffic.refl _).sameBearers

theorem State.TagsBut.bindingEnds {o : Option (MasterId × Tag)} (h : s.TagsBut o) (w : Option WindowId) :
    (s.bindingEnds w).TagsBut o := by
  cases w with
  | none => exact h
  | some w => exact h.countFalls w

@[simp] theorem State.setTarget_generations (s : State) (i : TargetId) (p : TargetPort) :
    (s.setTarget i p).generations = s.generations := rfl

/-- A change of a target port, with what it does to the transactions it carries. -/
theorem State.TagsBut.setTarget {o o' : Option (MasterId × Tag)} {i : TargetId} {p : TargetPort} (h : s.TagsBut o)
    (hx : p.xidsOk) (hl : p.NotLater s.generations)
    (hb : ∀ k, (p.owners s.generations).count k + o'.toList.count k =
      ((s.target i).owners s.generations).count k + o.toList.count k) : (s.setTarget i p).TagsBut o' := by
  refine ⟨h.xids.setTarget hx, fun m tag => ?_, h.current, fun j => ?_⟩
  · have hc := h.count m tag
    have hs := sum_map_change (f := fun j => (((s.setTarget i p).target j).owners s.generations).count (m, tag))
      (g := fun j => ((s.target j).owners s.generations).count (m, tag)) nodup_allTargets (mem_allTargets i)
      fun k hk => by simp [Ne.symm hk]
    have := hb (m, tag)
    rw [State.holdersOf_eq] at hc ⊢
    rw [State.setTarget_generations, State.setTarget_port]
    rw [State.setTarget_target, if_pos rfl] at hs
    omega
  · rw [State.setTarget_generations, State.setTarget_target]
    split
    · exact hl
    · exact h.notLater j

/-- A tag of one master is owed to no other. -/
theorem count_owed (m k : MasterId) (o : Option Tag) (tag : Tag) :
    (o.map (Prod.mk m)).toList.count (k, tag) = if m = k then o.toList.count tag else 0 := by
  cases o with
  | none => simp
  | some g => by_cases h : m = k <;> simp [h, List.count_singleton]

/-- A change of a master port's queue and tags, with what it does to the tags. -/
theorem State.TagsBut.setPort {m : MasterId} {o o' : Option Tag} {p : MasterPort} (h : s.TagsBut (o.map (Prod.mk m)))
    (hx : (s.setPort m p).xidsOk) (hg : p.generation = s.generations m)
    (hq : ∀ r ∈ p.inbound, r ∈ (s.port m).inbound ∨ r.current (s.generations m) = true)
    (hb : ∀ tag, (p.inbound.map (·.tag)).count tag + o'.toList.count tag + ((s.port m).tags.get tag).holders =
      ((s.port m).inbound.map (·.tag)).count tag + o.toList.count tag + (p.tags.get tag).holders) :
    (s.setPort m p).TagsBut (o'.map (Prod.mk m)) := by
  have gens : (s.setPort m p).generations = s.generations := funext fun k => by
    unfold State.generations at hg ⊢
    rw [State.setPort_port]
    split
    · next e => rw [hg, e]
    · rfl
  refine ⟨hx, fun k tag => ?_, fun k r hr => ?_, fun i => by rw [gens]; exact h.notLater i⟩
  · have hc := h.count k tag
    rw [State.holdersOf_eq, count_owed] at hc ⊢
    rw [gens]
    simp only [State.setPort_target, State.setPort_port]
    by_cases e : m = k
    · subst e
      have := hb tag
      simp only [if_true] at hc ⊢
      omega
    · simpa only [if_neg e] using hc
  · rw [gens]
    rw [State.setPort_port] at hr
    split at hr
    · next e => subst e; exact (hq r hr).elim (h.current m r) id
    · exact h.current k r hr

/-- A change of a port's link and cleanup. -/
theorem State.TagsBut.setPort_same (h : s.TagsBut none) {m : MasterId} {p : MasterPort} (hi : p.inbound = (s.port m).inbound)
    (ht : p.tags = (s.port m).tags) (hg : p.generation = (s.port m).generation) : (s.setPort m p).TagsBut none :=
  State.TagsBut.setPort (o := none) (o' := none) h (h.xids.setPort_same hi) hg (fun r hr => .inl (hi ▸ hr))
    fun tag => by rw [hi, ht]

/-! ### Completions and queues (R22, R151, R154, R155) -/

theorem TagState.holders_le_one (g : TagState) : g.holders ≤ 1 := by cases g <;> decide

/-- A completion frees the tag that was carried nowhere. -/
theorem State.TagsBut.complete {m : MasterId} {tag : Tag} (h : s.TagsBut (some (m, tag))) {f : CompletionFrame}
    (hf : f.tag = tag) : (s.complete m f).TagsBut none := by
  have sent : (s.sendToMaster m f).TagsBut (some (m, tag)) := h.calm .of_frame
  have one : ((s.port m).tags.get tag).holders = 1 := by
    have := h.count m tag
    have := TagState.holders_le_one ((s.port m).tags.get tag)
    simp only [Option.toList_some, List.count_singleton_self] at *
    omega
  refine State.TagsBut.setPort (o := some tag) (o' := none) sent (sent.xids.setPort_same rfl) rfl (fun _ hr => .inl hr)
    fun g => ?_
  simp only [State.sendToMaster_port, Table.get_put, hf, Option.toList_some, Option.toList_none, List.count_nil,
    List.count_singleton, beq_iff_eq]
  split
  · next e => rw [← e, one]; rfl
  · rfl

/-- A completion that is owed to the port only if the transaction is of its present generation (R156). -/
theorem State.TagsBut.deliver {m : MasterId} {g : Nat} {f : CompletionFrame}
    (h : s.TagsBut (if g = s.generations m then some (m, f.tag) else none)) :
    (if g = (s.port m).generation then s.complete m f else s).TagsBut none := by
  by_cases e : g = s.generations m
  · rw [if_pos e] at h
    rw [if_pos (show g = (s.port m).generation from e)]
    exact h.complete rfl
  · rw [if_neg e] at h
    rw [if_neg (show ¬ g = (s.port m).generation from e)]
    exact h

/-- A head that leaves its queue leaves its tag carried nowhere. -/
theorem State.TagsBut.leaveHead {m : MasterId} {r : Request} (h : s.TagsBut none) (hr : s.head m = some r) :
    (s.leaveHead m).TagsBut (some (m, r.tag)) := by
  refine State.TagsBut.setPort (o := none) (o' := some r.tag) h (h.xids.leaveHead m) rfl
    (fun _ hq => .inl (List.mem_of_mem_tail hq)) fun tag => ?_
  rw [State.inbound_of_head hr]
  simp only [List.map_cons, List.tail_cons, List.count_cons, Option.toList_some, Option.toList_none, List.count_nil]
  omega

theorem State.TagsBut.completeHead {m : MasterId} {r : Request} (h : s.TagsBut none) (hr : s.head m = some r)
    {f : CompletionFrame} (hf : f.tag = r.tag) : (s.completeHead m f).TagsBut none :=
  (h.leaveHead hr).complete hf

/-- A head that is bound or held keeps its tag. -/
theorem State.TagsBut.setBinding {m : MasterId} {r : Request} {b : BindState} (h : s.TagsBut none) (hr : s.head m = some r)
    (hc : Request.current { r with binding := b } (s.generations m) = true)
    (hl : Request.legsDiffer { r with binding := b } = true) :
    (s.setPort m { s.port m with inbound := { r with binding := b } :: (s.port m).inbound.tail }).TagsBut none := by
  refine State.TagsBut.setPort (o := none) (o' := none) h (h.xids.setPort fun q hq => ?_) rfl (fun q hq => ?_) fun tag => ?_
  · exact (List.mem_cons.mp hq).elim (fun e => .inr (e ▸ hl)) fun hq => .inl (List.mem_of_mem_tail hq)
  · exact (List.mem_cons.mp hq).elim (fun e => .inr (e ▸ hc)) fun hq => .inl (List.mem_of_mem_tail hq)
  · rw [State.inbound_of_head hr]
    rfl

/-- A FREE tag is marked OUTSTANDING. -/
theorem State.TagsBut.markTag {m : MasterId} {tag : Tag} (h : s.TagsBut none) (hf : (s.port m).tags.get tag = .free) :
    (s.markTag m tag).TagsBut (some (m, tag)) := by
  refine State.TagsBut.setPort (o := none) (o' := some tag) h (h.xids.setPort_same rfl) rfl (fun _ hr => .inl hr) fun g => ?_
  simp only [Table.get_put, Option.toList_some, Option.toList_none, List.count_nil, List.count_singleton, beq_iff_eq]
  split
  · next e => subst e; simp [hf, TagState.holders]
  · rfl

/-- The request with a tag that was carried nowhere joins its queue. -/
theorem State.TagsBut.enqueue {m : MasterId} (f : RequestFrame) (h : s.TagsBut (some (m, f.tag))) :
    (s.enqueue m (requestOf f)).TagsBut none := by
  have added {r : Request} (hr : r ∈ (s.port m).inbound ++ [requestOf f]) : r ∈ (s.port m).inbound ∨ r = requestOf f := by
    simpa using hr
  refine State.TagsBut.setPort (o := some f.tag) (o' := none) h (h.xids.setPort fun r hr => ?_) rfl (fun r hr => ?_) fun tag => ?_
  · exact (added hr).imp id fun e => by rw [e]; rfl
  · exact (added hr).imp id fun e => by rw [e]; rfl
  · simp [requestOf]

theorem State.TagsBut.takeRequest (h : s.TagsBut none) (m : MasterId) (f : RequestFrame) : (s.takeRequest m f).TagsBut none := by
  cases hf : (s.port m).tags.get f.tag with
  | outstanding => rw [takeRequest_clash hf]; exact h.calm (.post s m _)
  | free =>
    cases hw : f.wellFormed with
    | false => rw [takeRequest_malformed hf hw]; exact (h.markTag hf).complete rfl
    | true => rw [takeRequest_wellFormed hf hw]; exact (h.markTag hf).enqueue f

end Sys2Proof.Machine
end

section
/-! TagSteps: steering decisions, target ports, grants and cleanups keep every tag with its one request (O56). -/

namespace Sys2Proof.Machine

-- One proof after the other, as in the tests: together they would take too many threads, and their stacks too much memory.
set_option Elab.async false

variable {s t u : State}

/-! ### Notices, and states with the same accessors -/

theorem State.TagsBut.post {o : Option (MasterId × Tag)} (h : s.TagsBut o) (m : MasterId) (b : NoticeBody) :
    (s.post m b).TagsBut o := h.calm (.post s m b)

theorem State.TagsBut.postEach {o : Option (MasterId × Tag)} (h : s.TagsBut o) (ms : List MasterId) (b : NoticeBody) :
    (s.postEach ms b).TagsBut o := h.calm (.postEach s ms b)

theorem State.TagsBut.markContention {o : Option (MasterId × Tag)} (h : s.TagsBut o) (w : WindowId) (m : MasterId) :
    (s.markContention w m).TagsBut o := h.calm (.markContention s w m)

theorem State.TagsBut.of_accessors {o : Option (MasterId × Tag)} (h : s.TagsBut o) (hw : t.windows = s.windows)
    (ht : t.time = s.time) (hg : ∀ i, t.target i = s.target i) (hp : ∀ m, t.port m = s.port m) : t.TagsBut o :=
  h.calm (.of_accessors hw ht hg hp) (Table.ext_get hp)

/-! ### Steering decisions -/

/-- What a route's decision binds is of the master's present generation, and a mirror's binding names its window. -/
theorem routeDecision_current {m : MasterId} {w : WindowId} {r : Request} {b : Binding} (h : s.routeDecision m w r = .bind b) :
    b.current (s.generations m) = true := by
  have single {i : TargetId} {a : Word}
      (h : s.countLimited w (s.oneTarget i ⟨s.generations m, some w, .single i a⟩) = .bind b) :
      b.current (s.generations m) = true := by
    rw [oneTarget_bind (countLimited_bind h).1]
    simp [Binding.current]
  unfold State.routeDecision at h
  dsimp only at h
  split at h
  · split at h
    · cases h
    · cases h
    · exact single h
  · split at h
    · cases h
    · cases h
    · exact single h
    · obtain ⟨k, rfl⟩ := twoTargets_bind (countLimited_bind h).1
      simp [Binding.current, State.generations]

theorem steered_current {m : MasterId} {r : Request} {b : Binding} (h : s.steered m r = .bind b) :
    b.current (s.generations m) = true := by
  unfold State.steered at h
  split at h
  · unfold State.defaultDecision at h
    split at h
    · cases h
    · rw [oneTarget_bind h]
      simp [Binding.current, State.generations]
  · unfold State.windowDecision at h
    split at h
    · cases h
    · split at h
      · cases h
      · cases h
      · exact routeDecision_current h

theorem State.TagsBut.holdHead {m : MasterId} {r : Request} (h : s.TagsBut none) (hr : s.head m = some r) :
    (s.holdHead m).TagsBut none := by
  rw [State.holdHead_of_head hr]
  exact h.setBinding hr rfl rfl

theorem State.TagsBut.rebindHead {m : MasterId} {r : Request} {b : Binding} (h : s.TagsBut none) (hr : s.head m = some r)
    (hc : b.current (s.generations m) = true) (hl : b.route.legsDiffer = true) : (s.rebindHead m b).TagsBut none := by
  rw [State.rebindHead_of_head hr]
  exact h.setBinding hr hc hl

theorem State.TagsBut.bindHead {m : MasterId} {r : Request} {b : Binding} (h : s.TagsBut none) (hr : s.head m = some r)
    (hd : s.steered m r = .bind b) : (s.bindHead m b).TagsBut none := by
  have rebound := h.rebindHead hr (steered_current hd) ((steered_bind hd).2 h.xids.2.1)
  refine rebound.still (h.xids.bindHead hr hd) (Table.ext_get fun k => ?_) fun i => ?_
  · show (s.bindHead m b).port k = (s.rebindHead m b).port k
    rw [State.bindHead_port hr, State.rebindHead_of_head hr, State.setPort_port]
  · rw [State.bindHead_target, State.rebindHead_of_head hr, State.setPort_target]
    split <;> exact ⟨fun _ => rfl, rfl⟩

theorem State.TagsBut.pageAccess {m : MasterId} {r : Request} (h : s.TagsBut none) (hr : s.head m = some r) :
    (s.pageAccess m r).TagsBut none := by
  unfold State.pageAccess
  split
  · exact (h.calm (.pageReadEffect s m r.pageWord)).completeHead (r := r) (by simpa using hr) rfl
  · exact (h.calm (.pageWrite s m r.pageWord _ r.tag)).completeHead (r := r) (by simpa using hr) rfl

theorem State.TagsBut.carryOut {m : MasterId} {r : Request} {d : Decision} (h : s.TagsBut none) (hr : s.head m = some r)
    (hd : ∀ b, d = .bind b → s.steered m r = .bind b) : (s.carryOut m r d).TagsBut none := by
  cases d with
  | controlPage => exact h.pageAccess hr
  | refuse code => exact h.completeHead hr rfl
  | heldElsewhere w =>
    have refused : (s.refuseHead m r.tag .heldElsewhere).TagsBut none := h.completeHead hr rfl
    exact refused.markContention w m
  | fill => exact h.completeHead hr rfl
  | discard => exact h.completeHead hr rfl
  | bind b => exact h.bindHead hr (hd b rfl)
  | waitAtLimit => exact h.holdHead hr

theorem State.TagsBut.decideHead (h : s.TagsBut none) (m : MasterId) : (s.decideHead m).TagsBut none := by
  unfold State.decideHead State.dueHead
  cases hr : s.head m with
  | none => exact h
  | some r =>
    by_cases hu : r.binding = .unbound false
    · simpa [hu] using h.carryOut hr fun b => steered_of_decision
    · simpa [hu] using h

theorem State.TagsBut.redecideHead (h : s.TagsBut none) (m : MasterId) : (s.redecideHead m).TagsBut none := by
  unfold State.redecideHead State.heldHead
  cases hr : s.head m with
  | none => exact h
  | some r =>
    by_cases hu : r.binding = .unbound true
    · simpa [hu] using h.carryOut hr fun b => id
    · simpa [hu] using h

theorem State.TagsBut.redecideHeads (h : s.TagsBut none) : s.redecideHeads.TagsBut none :=
  foldl_invariant (State.TagsBut · none) _ (fun _ m hs => hs.redecideHead m) _ _ h

theorem State.TagsBut.redecideAfterFalls (h : s.TagsBut none) (before : State) : (s.redecideAfterFalls before).TagsBut none := by
  unfold State.redecideAfterFalls
  split
  · exact h.redecideHeads
  · exact h

/-! ### Waiting heads re-examined (R38, R102, R103) -/

theorem State.TagsBut.stopWaiting (h : s.TagsBut none) (i : TargetId) (m : MasterId) : (s.stopWaiting i m).TagsBut none :=
  State.TagsBut.setTarget (o := none) (o' := none) h (TargetPort.xidsOk_of_frame rfl (fun _ => .rfl) (h.xids.1 i))
    (h.notLater i) fun _ => rfl

theorem State.TagsBut.reexamineHead (h : s.TagsBut none) (i : TargetId) (m : MasterId) : (s.reexamineHead i m).TagsBut none := by
  have out := h.stopWaiting i m
  rcases reexamineHead_cases s i m with ⟨-, he⟩ | ⟨r, b, code, hr, -, -, he⟩ | ⟨r, b, t1, a1, t2, a2, hr, hb, hroute, -, he⟩
  · rw [he]; exact out
  · rw [he]; exact State.TagsBut.bindingEnds (out.completeHead (r := r) (by simpa using hr) rfl) _
  · have hm : r ∈ (s.port m).inbound := by rw [State.inbound_of_head hr]; simp
    rw [he]
    refine out.rebindHead (r := r) (by simpa using hr) ?_ ?_
    · change Binding.current _ (s.generations m) = true
      have := h.current m r hm
      simpa [Request.current, Binding.current, hb, hroute] using this
    · have := h.xids.2.2 m r hm
      simpa [Request.legsDiffer, hb, hroute, BoundRoute.legsDiffer] using this

theorem State.TagsBut.reexamine (h : s.TagsBut none) (i : TargetId) : (s.reexamine i).TagsBut none :=
  foldl_invariant (State.TagsBut · none) _ (fun _ m hs => hs.reexamineHead i m) _ _ h

/-! ### The end of a transaction (R88, R93, R104 to R106, R156) -/

theorem MirrorRecord.owner_record (gen : MasterId → Nat) (r : MirrorRecord) (n : LegNo) (o : EndOutcome) :
    (r.record n o).owner gen = r.owner gen := by
  cases n <;> rfl

/-- A write with an ended leg and no leg pending has a result (R105). -/
theorem MirrorRecord.exists_result {r : MirrorRecord} {o : EndOutcome} (h1 : r.leg1.outcome = .ended o)
    (h2 : r.leg2.outcome ≠ .pending) : ∃ result, r.result = some result := by
  unfold MirrorRecord.result
  rw [h1]
  cases h : r.leg2.outcome with
  | pending => exact absurd h h2
  | skipped => cases o <;> exact ⟨_, rfl⟩
  | ended e => cases o <;> cases e <;> exact ⟨_, rfl⟩

theorem MirrorRecord.exists_result_record {r : MirrorRecord} {n : LegNo} {o : EndOutcome} (h : (r.record n o).allEnded = true) :
    ∃ result, (r.record n o).result = some result := by
  simp only [MirrorRecord.allEnded, Bool.and_eq_true, decide_eq_true_eq] at h
  cases n with
  | one => exact MirrorRecord.exists_result rfl h.2
  | two =>
    rw [← MirrorRecord.result_swap]
    exact MirrorRecord.exists_result rfl h.1

theorem State.TagsBut.writeEnds {r : MirrorRecord} (h : s.TagsBut (r.owner s.generations)) (status : CompletionStatus)
    (split : Option (TargetId × SplitCause)) : (s.writeEnds r status split).TagsBut none := by
  have told := State.TagsBut.deliver (f := ⟨r.tag, status, none, []⟩) h
  refine State.TagsBut.countFalls ?_ _
  cases split with
  | none => exact told
  | some cause =>
    dsimp only
    split at told
    · next e => rw [if_pos e]; exact told.post _ _
    · next e => rw [if_neg e]; exact told

/-- A change of the mirror records that a target port holds, with what it does to their tags. -/
theorem State.TagsBut.setMirrors {o : Option (MasterId × Tag)} (h : s.TagsBut none) {i : TargetId} {ms : List MirrorRecord}
    (hm : ∀ r ∈ ms, ∃ q ∈ (s.target i).mirrors, q.generation = r.generation ∧ q.master = r.master)
    (hb : ∀ k, (ms.filterMap (MirrorRecord.owner s.generations)).count k + o.toList.count k =
      ((s.target i).mirrors.filterMap (MirrorRecord.owner s.generations)).count k) :
    (s.setTarget i { s.target i with mirrors := ms }).TagsBut o := by
  refine State.TagsBut.setTarget (o := none) h (TargetPort.xidsOk_of_frame rfl (fun _ => .rfl) (h.xids.1 i))
    ((h.notLater i).mirrors hm) fun k => ?_
  have := TargetPort.count_owners_mirrors (s.target i) ms s.generations k
  have := hb k
  simp only [Option.toList_none, List.count_nil]
  omega

/-- The element that a search finds is the one that its removal takes out. -/
theorem eraseP_of_find? {α : Type} {p : α → Bool} {l : List α} {a : α} (h : l.find? p = some a) :
    ∃ before after, l = before ++ a :: after ∧ l.eraseP p = before ++ after := by
  obtain ⟨ha, before, after, hl, hb⟩ := List.find?_eq_some_iff_append.mp h
  refine ⟨before, after, hl, ?_⟩
  rw [hl, List.eraseP_append_right _ (by simpa using hb), List.eraseP_cons, ha, cond_true]

theorem count_filterMap_middle {α β : Type} [BEq β] (f : α → Option β) (before : List α) (a : α) (after : List α) (k : β) :
    ((before ++ after).filterMap f).count k + (f a).toList.count k = ((before ++ a :: after).filterMap f).count k := by
  cases h : f a with
  | none => simp [h]
  | some b => simp [h, List.count_cons, Nat.add_assoc]

theorem State.TagsBut.legEnds (h : s.TagsBut none) (ref : LegRef) (i : TargetId) (x : Xid) (o : EndOutcome) :
    (s.legEnds ref i x o).TagsBut none := by
  unfold State.legEnds
  dsimp only
  split
  · exact h
  · next r hr =>
    split
    · next hall =>
      obtain ⟨⟨status, split⟩, hres⟩ := MirrorRecord.exists_result_record hall
      obtain ⟨before, after, hm, he⟩ := eraseP_of_find? hr
      rw [State.endMirror_record _ hres, he]
      refine State.TagsBut.writeEnds (h.setMirrors (fun q hq => ⟨q, ?_, rfl, rfl⟩) fun k => ?_) status split
      · rw [hm]
        exact (List.mem_append.mp hq).elim (List.mem_append_left _) fun hq => List.mem_append_right _ (List.mem_cons_of_mem _ hq)
      · rw [hm]
        exact count_filterMap_middle _ before r after k
    · have frame (q : MirrorRecord) :
          (if q.names ref.leg i x then q.record ref.leg o else q).owner s.generations = q.owner s.generations := by
        split
        · exact MirrorRecord.owner_record _ q _ _
        · rfl
      refine h.setMirrors (o := none) (fun q hq => ?_) fun k => ?_
      · obtain ⟨q', hq', rfl⟩ := List.mem_map.mp hq
        refine ⟨q', hq', ?_⟩
        obtain ⟨hmaster, -, hgen, -⟩ := q'.record_frame ref.leg o
        split
        · exact ⟨hgen.symm, hmaster.symm⟩
        · exact ⟨rfl, rfl⟩
      · rw [List.filterMap_map, show MirrorRecord.owner s.generations ∘ _ = MirrorRecord.owner s.generations from funext frame]
        rfl

theorem State.TagsBut.endTransaction (h : s.TagsBut none) (i : TargetId) (x : Xid) (o : EndOutcome) (data : List Byte) :
    (s.endTransaction i x o data).TagsBut none := by
  unfold State.endTransaction
  split
  · exact h
  · next r hx =>
    have freed : (s.setTarget i ((s.target i).freeXid x)).TagsBut (r.owner s.generations) := by
      refine State.TagsBut.setTarget (o := none) h ((h.xids.1 i).freeXid (by simp [hx])) ((h.notLater i).freeXid x) fun k => ?_
      exact TargetPort.count_owners_freeXid hx s.generations k
    dsimp only
    split
    · next ref hl =>
      rw [show r.owner s.generations = none by simp [OutRecord.owner, hl]] at freed
      exact freed.legEnds ref i x o
    · next hl =>
      rw [show r.owner s.generations = if r.generation = s.generations r.master then some (r.master, r.tag) else none by
        simp [OutRecord.owner, hl]] at freed
      exact State.TagsBut.bindingEnds (State.TagsBut.deliver (f := ⟨r.tag, o.status, none, data⟩) freed) _

/-! ### Target ports -/

theorem State.TagsBut.finishDrain (h : s.TagsBut none) (i : TargetId) : (s.finishDrain i).TagsBut none :=
  h.calm (.finishDrain s i)

theorem State.TagsBut.faultByThreshold (h : s.TagsBut none) (i : TargetId) : (s.faultByThreshold i).TagsBut none :=
  State.TagsBut.postEach ((h.calm (.enterState s i .faulted)).reexamine i) _ _

theorem State.TagsBut.endByTimeout (h : s.TagsBut none) (i : TargetId) (x : Xid) : (s.endByTimeout i x).TagsBut none := by
  have ended := State.TagsBut.calm (h.endTransaction i x .timeout []) (.countTimeout _ i)
  unfold State.endByTimeout
  dsimp only
  split
  · exact ended.faultByThreshold i
  · exact ended.finishDrain i

theorem State.TagsBut.countAge (h : s.TagsBut none) (i : TargetId) (x : Xid) : (s.countAge i x).TagsBut none := by
  unfold State.countAge
  split
  · exact h
  · next r hr =>
    split
    · have counted : (s.setTarget i { s.target i with records := (s.target i).records.put x (some r.count) }).TagsBut none := by
        refine h.calm (.setTarget ⟨rfl, fun y => ?_, rfl, rfl⟩)
        simp only [TargetPort.record, Table.get_put]
        split
        · next e => rw [← e, show (s.target i).records.get x = some r from hr]; rfl
        · rfl
      dsimp only
      split
      · exact State.TagsBut.redecideAfterFalls (counted.endByTimeout i x) _
      · exact counted
    · exact h

theorem State.TagsBut.takeAnswer (h : s.TagsBut none) (i : TargetId) (f : AnswerFrame) : (s.takeAnswer i f).TagsBut none := by
  unfold State.takeAnswer State.endByAnswer
  split
  · exact h.calm (.countStray s i)
  · split
    · have noted := h.calm (.noteAnswer s i f.status)
      exact State.TagsBut.redecideAfterFalls ((noted.endTransaction i f.xid _ _).finishDrain i) _
    · exact h.calm (.countStray s i)

theorem State.TagsBut.linkDown (h : s.TagsBut none) (i : TargetId) : (s.linkDown i).TagsBut none := by
  have lost : ((s.setLink i .down).loseAll i).TagsBut none :=
    foldl_invariant (State.TagsBut · none) _ (fun _ x hs => hs.endTransaction i x .targetLost []) _ _ (h.calm (.setLink s i .down))
  have examined := State.TagsBut.reexamine (lost.calm (.enterState _ i .faulted)) i
  have told := fun ms => examined.postEach ms (.targetFaulted i .linkDown)
  refine State.TagsBut.redecideAfterFalls ?_ s
  unfold State.linkLost
  dsimp only
  split
  · exact (told _).calm (.tellRequesters _ i _)
  · exact told _

theorem State.TagsBut.joinRequesters (h : s.TagsBut none) (i : TargetId) (m : MasterId) :
    (s.joinRequesters i m).TagsBut none := h.calm (.joinRequesters s i m)

theorem State.TagsBut.startFence (h : s.TagsBut none) (i : TargetId) (m : MasterId) : (s.startFence i m).TagsBut none := by
  refine State.TagsBut.redecideAfterFalls ?_ s
  unfold State.enterFence
  split
  · exact State.TagsBut.post ((h.calm (.enterState s i _)).reexamine i) m _
  · have entered := h.calm (.enterState s i .fencing)
    exact State.TagsBut.reexamine (entered.joinRequesters i m) i

theorem State.TagsBut.fenceEffect (h : s.TagsBut none) (m : MasterId) (a : Args) : (fenceEffect s m a).1.TagsBut none := by
  unfold Machine.fenceEffect
  repeat' split
  · exact h
  · exact h.startFence _ m
  · exact h.startFence _ m
  · exact h
  · exact h.joinRequesters _ m
  · exact h

/-! ### Grants (R85, R100, R101) -/

/-- The record made for a request at a grant belongs to it, unless it is a leg's. -/
theorem newRecord_owner {m : MasterId} {b : Binding} {gen : MasterId → Nat} (hg : b.generation = gen m) (r : Request)
    (a : Word) (leg : Option LegRef) :
    (newRecord m r b a leg).owner gen = if leg = none then some (m, r.tag) else none := by
  simp [OutRecord.owner, newRecord, hg]

/-- A mirror record made at a grant belongs to the request. -/
theorem MirrorRecord.owner_present {gen : MasterId → Nat} {r : MirrorRecord} (hg : r.generation = gen r.master) :
    r.owner gen = some (r.master, r.tag) := if_pos hg

theorem generation_of_current {b : Binding} {g : Nat} (h : b.current g = true) : b.generation = g := by
  unfold Binding.current at h
  simp only [Bool.and_eq_true, decide_eq_true_eq] at h
  exact h.1

/-- A mirror's binding in a queue names its window. -/
theorem window_of_current {b : Binding} {g : Nat} (h : b.current g = true) {t1 t2 : TargetId} {a1 a2 : Word} {k : Option LegNo}
    (hr : b.route = .mirror t1 a1 t2 a2 k) : ∃ w, b.window = some w := by
  unfold Binding.current at h
  rw [hr] at h
  simp only [Bool.and_eq_true] at h
  exact Option.isSome_iff_exists.mp h.2

/-- What a target port gains when it is granted a request: its record, and mirror records, all of the request's master and of a
generation that is not later than its port's. -/
theorem State.TagsBut.granted {o o' : Option (MasterId × Tag)} {i : TargetId} {x : Xid} {xs : List Xid} {out : OutRecord}
    {held : List MirrorRecord} {m : MasterId} (h : s.TagsBut o) (hf : (s.target i).freeList = x :: xs)
    (ho : out.generation = s.generations out.master) (hh : ∀ r ∈ held, r.generation = s.generations r.master)
    (hb : ∀ k, ((out.owner s.generations).toList ++ held.filterMap (MirrorRecord.owner s.generations)).count k +
      o'.toList.count k = o.toList.count k) : (s.setTarget i ((s.target i).granted x out m held)).TagsBut o' := by
  refine h.setTarget ((h.xids.1 i).granted hf out m held)
    ((h.notLater i).granted x m ho.le fun r hr => (hh r hr).le) fun k => ?_
  have := TargetPort.count_owners_granted (h.xids.1 i) hf out m held s.generations k
  have := hb k
  omega

theorem skippedRecord_frame (m : MasterId) (tag : Tag) (b : Binding) (w : WindowId) (t1 t2 : TargetId) (k : LegNo) (x : Xid) :
    (skippedRecord m tag b w t1 t2 k x).master = m ∧ (skippedRecord m tag b w t1 t2 k x).tag = tag ∧
    (skippedRecord m tag b w t1 t2 k x).generation = b.generation := by
  cases k <;> exact ⟨rfl, rfl, rfl⟩

section Grants

variable {m : MasterId} {r : Request} {b : Binding}

theorem State.TagsBut.grantOne {i : TargetId} {x : Xid} {xs : List Xid} (h : s.TagsBut none) (hr : s.head m = some r)
    (hc : b.current (s.generations m) = true) (hf : (s.target i).freeList = x :: xs) : (s.grantOne i x m r b).TagsBut none := by
  have left := h.leaveHead hr
  have hg : b.generation = (s.leaveHead m).generations m := by
    simpa [State.generations, State.leaveHead_port] using generation_of_current hc
  have hf' : ((s.leaveHead m).target i).freeList = x :: xs := by simpa using hf
  unfold State.grantOne
  split
  · next a _ =>
    have given := left.granted (o' := none) (out := newRecord m r b a none) (held := []) (m := m) hf' hg (by simp)
      fun k => by simp [newRecord_owner hg]
    exact given.of_accessors (by simp) (by simp) (fun j => by simp [State.forward_target]) fun k => by simp [State.leaveHead_port]
  · next t1 a1 t2 a2 k hroute =>
    obtain ⟨w, hw⟩ := window_of_current hc hroute
    obtain ⟨hmaster, htag, hgen⟩ := skippedRecord_frame m r.tag b w t1 t2 k x
    have hq : (skippedRecord m r.tag b w t1 t2 k x).generation =
        (s.leaveHead m).generations (skippedRecord m r.tag b w t1 t2 k x).master := by rw [hgen, hmaster, hg]
    have given := left.granted (o' := none) (out := newRecord m r b (sentAddress a1 a2 k) (some ⟨i, otherLeg k⟩))
      (held := [skippedRecord m r.tag b w t1 t2 k x]) (m := m) hf' hg (by simpa using hq)
      fun k => by simp [newRecord_owner hg, MirrorRecord.owner_present hq, hmaster, htag]
    dsimp only
    rw [hw]
    refine given.of_accessors (by simp) (by simp) (fun j => ?_) fun k => by simp [State.leaveHead_port]
    by_cases e : i = j <;> simp [State.holdMirror_target, State.forward_target, TargetPort.granted, e]
  · exact h

theorem State.TagsBut.grantBoth (h : s.TagsBut none) (hr : s.head m = some r) (hc : b.current (s.generations m) = true)
    (hl : b.route.legsDiffer = true) : (s.grantBoth m r b).TagsBut none := by
  have left := h.leaveHead hr
  have hg : b.generation = (s.leaveHead m).generations m := by
    simpa [State.generations, State.leaveHead_port] using generation_of_current hc
  unfold State.grantBoth
  split
  · next t1 a1 t2 a2 hroute =>
    have hd : t1 ≠ t2 := by simpa [hroute, BoundRoute.legsDiffer] using hl
    obtain ⟨w, hw⟩ := window_of_current hc hroute
    split
    · next x1 xs1 x2 xs2 hf1 hf2 =>
      have first := left.granted (o' := none) (i := t1) (out := newRecord m r b a1 (some ⟨t1, .one⟩))
        (held := [⟨m, r.tag, b.generation, w, none, ⟨t1, some x1, .pending⟩, ⟨t2, some x2, .pending⟩⟩]) (m := m)
        (by simpa using hf1) hg (by simpa using hg) fun k => by simp [newRecord_owner hg, MirrorRecord.owner, ← hg]
      have both := first.granted (o' := none) (i := t2) (x := x2) (xs := xs2) (out := newRecord m r b a2 (some ⟨t1, .two⟩))
        (held := []) (m := m) (by simpa [hd] using hf2) hg (by simp) fun k => by
          rw [State.setTarget_generations, newRecord_owner hg]; simp
      dsimp only
      rw [hw]
      refine both.of_accessors (by simp) (by simp) (fun j => ?_) fun k => by simp [State.leaveHead_port]
      by_cases e : t1 = j
      · subst e; simp [State.holdMirror_target, State.forward_target, hd, hd.symm, TargetPort.granted]
      · simp [State.holdMirror_target, State.forward_target, hd, e, TargetPort.granted]
    · exact h
  · exact h

end Grants

/-- The binding of a head is of the present generation, and its legs go to different targets. -/
theorem State.TagsBut.headBinding (h : s.TagsBut none) {m : MasterId} {r : Request} {b : Binding} (hr : s.head m = some r)
    (hb : r.binding = .bound b) : b.current (s.generations m) = true ∧ b.route.legsDiffer = true := by
  have hm : r ∈ (s.port m).inbound := by rw [State.inbound_of_head hr]; simp
  have hc := h.current m r hm
  have hl := h.xids.2.2 m r hm
  rw [Request.current, hb] at hc
  rw [Request.legsDiffer, hb] at hl
  exact ⟨hc, hl⟩

theorem State.TagsBut.xidGrant (h : s.TagsBut none) (i : TargetId) : (s.xidGrant i).TagsBut none := by
  unfold State.xidGrant
  split
  · exact h
  · next m hn =>
    obtain ⟨r, b, hr, hb, -⟩ := nextGrant_eligible hn
    rw [hr, headBinding_of_head hr hb]
    cases hf : (s.target i).freeList with
    | nil => exact h
    | cons x xs =>
      dsimp only
      split
      · exact h
      · exact h.grantOne hr (h.headBinding hr hb).1 hf

theorem State.TagsBut.mirrorXidGrant (h : s.TagsBut none) (i : TargetId) : (s.mirrorXidGrant i).TagsBut none := by
  unfold State.mirrorXidGrant
  split
  · exact h
  · next m hn =>
    obtain ⟨r, b, hr, hb, -⟩ := nextGrant_eligible hn
    obtain ⟨hc, hl⟩ := h.headBinding hr hb
    rw [hr, headBinding_of_head hr hb]
    dsimp only
    split
    · exact h.grantBoth hr hc hl
    · exact h

/-! ### Cleanups (R149, R156 to R158) -/

/-- The change of one port's generation does not concern the tags of another. -/
theorem TargetPort.count_owners_congr (p : TargetPort) {gen gen' : MasterId → Nat} {m : MasterId} (h : gen m = gen' m) (tag : Tag) :
    (p.owners gen).count (m, tag) = (p.owners gen').count (m, tag) := by
  rw [TargetPort.count_owners, TargetPort.count_owners, h]

/-- A new generation leaves its port no tag OUTSTANDING and no request that carries one (R156, R157). -/
theorem State.TagsBut.takeOwnPart (h : s.TagsBut none) (m : MasterId) : (s.takeOwnPart m).TagsBut none := by
  have port (k : MasterId) := State.takeOwnPart_port s m k
  have target (i : TargetId) : (s.takeOwnPart m).target i = s.target i := by
    simp [State.takeOwnPart, State.target, State.foldl_countFalls_frame]
  have later : s.generations m < (s.takeOwnPart m).generations m := by
    simp only [State.generations, port, if_true]
    exact Nat.lt_succ_self _
  have other {k : MasterId} (e : m ≠ k) : (s.takeOwnPart m).generations k = s.generations k := by
    simp only [State.generations, port, if_neg e]
  refine ⟨h.xids.takeOwnPart m, fun k tag => ?_, fun k r hr => ?_, fun i => ?_⟩
  · have hc := h.count k tag
    rw [State.holdersOf_eq] at hc ⊢
    simp only [target]
    by_cases e : m = k
    · subst e
      rw [port, if_pos rfl]
      simp only [(h.notLater _).count_owners later]
      simp [MasterPort.emptied, MasterPort.handedOver, TagState.holders]
    · rw [port, if_neg e]
      simpa only [TargetPort.count_owners_congr _ (other e)] using hc
  · by_cases e : m = k
    · rw [port, if_pos e] at hr
      cases hr
    · rw [port, if_neg e] at hr
      rw [other e]
      exact h.current k r hr
  · rw [target]
    have le (k : MasterId) : s.generations k ≤ (s.takeOwnPart m).generations k := by
      by_cases e : m = k
      · exact e ▸ later.le
      · exact (other e).ge
    exact ⟨fun x r hr => ((h.notLater i).1 x r hr).trans (le _), fun r hr => ((h.notLater i).2 r hr).trans (le _)⟩

theorem State.TagsBut.startCleanup (h : s.TagsBut none) (m : MasterId) : (s.startCleanup m).TagsBut none :=
  State.TagsBut.redecideAfterFalls (h.takeOwnPart m) s

theorem State.TagsBut.lowerPort (h : s.TagsBut none) (m : MasterId) : (s.lowerPort m).TagsBut none := by
  unfold State.lowerPort
  exact h.setPort_same rfl rfl rfl

theorem MasterPort.comeUp_frame (p : MasterPort) : p.comeUp.tags = p.tags ∧ p.comeUp.generation = p.generation := by
  unfold MasterPort.comeUp
  split <;> exact ⟨rfl, rfl⟩

/-- A change of a port's training or cleanup, after which it may come UP. -/
theorem State.TagsBut.comeUp (h : s.TagsBut none) {m : MasterId} {p : MasterPort} (hi : p.inbound = (s.port m).inbound)
    (ht : p.tags = (s.port m).tags) (hg : p.generation = (s.port m).generation) : (s.setPort m p.comeUp).TagsBut none := by
  obtain ⟨htags, hgen⟩ := p.comeUp_frame
  exact h.setPort_same (p.comeUp_inbound.trans hi) (htags.trans ht) (hgen.trans hg)

theorem State.TagsBut.takePart {m : MasterId} {b : CleanupBlock} {part : State → State} (h : s.TagsBut none)
    (hp : (part s).TagsBut none) : (s.takePart m b part).TagsBut none := by
  unfold State.takePart
  split
  · exact hp.comeUp rfl rfl rfl
  · exact h

theorem State.TagsBut.cleanTarget (h : s.TagsBut none) (m : MasterId) (i : TargetId) : (s.cleanTarget m i).TagsBut none :=
  State.TagsBut.setTarget (o := none) (o' := none) h (TargetPort.xidsOk_of_frame rfl (fun _ => .rfl) (h.xids.1 i))
    (h.notLater i) fun _ => rfl

end Sys2Proof.Machine
end

section
/-! TagsKept: the commands that no port's queue or tags are changed by, and that every step keeps the tags (O56). -/

namespace Sys2Proof.Machine

-- One proof after the other, as in the tests: together they would take too many threads, and their stacks too much memory.
set_option Elab.async false

variable {s t : State}

/-! ### Delivered commands that leave the ports -/

theorem defineWindowEffect_ports (s : State) (m : MasterId) (a : Args) : (defineWindowEffect s m a).1.ports = s.ports := by
  unfold defineWindowEffect
  (repeat' split) <;> rfl

theorem setRouteEffect_ports (s : State) (m : MasterId) (a : Args) : (setRouteEffect s m a).1.ports = s.ports := by
  unfold setRouteEffect
  (repeat' split) <;> rfl

theorem setAccessEffect_ports (s : State) (m : MasterId) (a : Args) : (setAccessEffect s m a).1.ports = s.ports := by
  unfold setAccessEffect
  (repeat' split) <;> rfl

theorem enableWindowEffect_ports (s : State) (m : MasterId) (a : Args) : (enableWindowEffect s m a).1.ports = s.ports := by
  unfold enableWindowEffect
  (repeat' split) <;> rfl

theorem disableWindowEffect_ports (s : State) (m : MasterId) (a : Args) : (disableWindowEffect s m a).1.ports = s.ports := by
  unfold disableWindowEffect
  (repeat' split) <;> rfl

theorem leaveTable_ports (s : State) (w : WindowId) (m : MasterId) : (s.leaveTable w m).1.ports = s.ports := by
  unfold State.leaveTable
  split <;> simp

theorem retireWindowEffect_ports (s : State) (m : MasterId) (a : Args) : (retireWindowEffect s m a).1.ports = s.ports := by
  unfold retireWindowEffect
  (repeat' split) <;> simp only [leaveTable_ports, forceOut_frame, refusedWith]

theorem setDefaultEffect_ports (s : State) (m : MasterId) (a : Args) : (setDefaultEffect s m a).1.ports = s.ports := by
  unfold setDefaultEffect
  split <;> rfl

theorem queryWindowEffect_ports (s : State) (m : MasterId) (a : Args) : (queryWindowEffect s m a).1.ports = s.ports := by
  unfold queryWindowEffect
  split <;> rfl

theorem claimEffect_ports (s : State) (m : MasterId) (a : Args) : (claimEffect s m a).1.ports = s.ports := by
  have queued (w : WindowId) (kind : LeaseKind) (d l n : Nat) : (s.joinQueue m w kind d l n).1.ports = s.ports := by
    unfold State.joinQueue
    (repeat' split) <;> rfl
  unfold claimEffect
  (repeat' split) <;> simp [refusedWith, queued]

theorem renewEffect_ports (s : State) (m : MasterId) (a : Args) : (renewEffect s m a).1.ports = s.ports := by
  unfold renewEffect
  (repeat' split) <;> rfl

theorem releaseEffect_ports (s : State) (m : MasterId) (a : Args) : (releaseEffect s m a).1.ports = s.ports := by
  unfold releaseEffect
  (repeat' split) <;> simp [refusedWith]

theorem withdrawEffect_ports (s : State) (m : MasterId) (a : Args) : (withdrawEffect s m a).1.ports = s.ports := by
  unfold withdrawEffect
  (repeat' split) <;> simp [refusedWith]

theorem revokeEffect_ports (s : State) (m : MasterId) (a : Args) : (revokeEffect s m a).1.ports = s.ports := by
  unfold revokeEffect
  (repeat' split) <;> simp [refusedWith]

theorem setTickEffect_ports (s : State) (m : MasterId) (a : Args) : (setTickEffect s m a).1.ports = s.ports := by
  unfold setTickEffect
  split <;> rfl

theorem setTargetEffect_ports (s : State) (m : MasterId) (a : Args) : (setTargetEffect s m a).1.ports = s.ports := by
  unfold setTargetEffect
  (repeat' split) <;> rfl

theorem queryTargetEffect_ports (s : State) (m : MasterId) (a : Args) : (queryTargetEffect s m a).1.ports = s.ports := by
  unfold queryTargetEffect
  (repeat' split) <;> rfl

theorem unfenceEffect_ports (s : State) (m : MasterId) (a : Args) : (unfenceEffect s m a).1.ports = s.ports := by
  unfold unfenceEffect
  (repeat' split) <;> simp [State.fenceReply, refuseTarget]

/-! ### Delivered commands and ticks -/

theorem State.TagsBut.takeDelivered (h : s.TagsBut none) {c : Command} {effect : State → MasterId → Args → State × Reply}
    (he : ∀ m a, (effect s m a).1.TagsBut none) : (s.takeDelivered c effect).TagsBut none := by
  unfold State.takeDelivered
  split
  · split
    · exact (he _ _).calm (.finishCommand _ _ _)
    · exact h
  · exact h

theorem State.TagsBut.tickArrives (h : s.TagsBut none) (b : TickBlock) : (s.tickArrives b).TagsBut none := by
  have taken : (s.takeOwedAt b).TagsBut none := by
    cases b with
    | leases => exact State.TagsBut.calm (t := s.takeOwedLeases) h (.takeOwedLeases s)
    | target i => exact foldl_invariant (State.TagsBut · none) _ (fun _ x hs => hs.countAge i x) _ _ h
  unfold State.tickArrives
  split
  · exact h
  · have arrived := taken.calm (.setTime (b := { (s.takeOwedAt b).time with due := (s.takeOwedAt b).time.due.arrived b }) id)
    exact arrived.calm (.oweAt _ b)

theorem State.TagsBut.tickPart (h : s.TagsBut none) (part : TickPart) : (s.tickPart part).TagsBut none := by
  cases part with
  | emit => exact h.calm (.emitTick s) rfl
  | arrive b => exact h.tickArrives b
  | lease w => exact State.TagsBut.calm (t := s.countLease w) h .of_frame
  | claim w m => exact State.TagsBut.calm (t := s.countClaim w m) h .of_frame
  | age i x => exact h.countAge i x

theorem State.TagsBut.finishRetirement (h : s.TagsBut none) (w : WindowId) : (s.finishRetirement w).TagsBut none := by
  have legs (w' : WindowId) (hw : (s.window w').writeRoute.legsDiffer = true) :
      ((s.finishRetirement w).window w').writeRoute.legsDiffer = true := by
    rw [State.finishRetirement_window]
    split
    · rfl
    · exact hw
  exact h.still (State.xidsOk_of_frame (by simp) legs (by simp) h.xids) (by simp) fun i => by
    simpa using (TargetPort.SameTraffic.refl _).sameBearers

/-! ### Every step -/

theorem exec_tagsBut {c : Instr} (h : s.TagsBut none) (he : exec c s = .next t) : t.TagsBut none := by
  have happens {effect : State → State} (he : happening s effect = .next t) (hk : (effect s).TagsBut none) : t.TagsBut none := by
    unfold happening at he
    cases he
    split
    · exact hk
    · exact h
  have still {effect : State → State} (he : happening s effect = .next t) (hc : s.Calm (effect s))
      (hp : (effect s).ports = s.ports) : t.TagsBut none := happens he (h.calm hc hp)
  have onTable {k : Command} {effect : State → MasterId → Args → State × Reply}
      (he : happening s (fun s => s.takeDelivered k fun s m a => tableTaken (effect s m a)) = .next t)
      (hc : ∀ m a, s.Calm (effect s m a).1) (hp : ∀ m a, (effect s m a).1.ports = s.ports) : t.TagsBut none :=
    happens he (h.takeDelivered fun m a => State.TagsBut.redecideHeads (h.calm (hc m a) (hp m a)))
  have atBlock {k : Command} {effect : State → MasterId → Args → State × Reply}
      (he : happening s (fun s => s.takeDelivered k effect) = .next t)
      (hc : ∀ m a, s.Calm (effect s m a).1) (hp : ∀ m a, (effect s m a).1.ports = s.ports) : t.TagsBut none :=
    happens he (h.takeDelivered fun m a => h.calm (hc m a) (hp m a))
  have decides {due : Bool} {m : MasterId} : (if due then s.decideHead m else s).TagsBut none := by
    split
    · exact h.decideHead m
    · exact h
  unfold exec at he
  cases c with
  | deviceReset =>
    cases he
    have reset := State.reset.tagsOk_iff.mp reset_tagsOk
    exact reset.calm (.of_frame rfl rfl rfl rfl) rfl
  | rstNRelease =>
    unfold execRstNRelease at he
    cases he
    split
    · exact h.still h.xids rfl fun i => (TargetPort.SameTraffic.refl _).sameBearers
    · exact h
  | tick part => exact happens he (h.tickPart part)
  | expired w =>
    refine happens he ?_
    split
    · exact State.TagsBut.calm (t := s.countLease w) h .of_frame
    · exact h
  | handoff w => exact still he (.of_frame (t := s.handOff w)) (by simp)
  | claimLapsed w m =>
    refine happens he ?_
    split
    · exact State.TagsBut.calm (t := s.countClaim w m) h .of_frame
    · exact h
  | timeout i x => exact happens he (by split <;> [exact h.countAge i x; exact h])
  | requestFrame m f => exact happens he (by split <;> [exact h.takeRequest m f; exact h])
  | portReset m => exact happens he (by split <;> [exact h.startCleanup m; exact h])
  | linkDrop m => exact happens he (by split <;> [exact (h.lowerPort m).startCleanup m; exact h.lowerPort m])
  | masterLinkTrains m => exact happens he (h.comeUp rfl rfl rfl)
  | cleanupEnginePart m => exact happens he (h.takePart (State.TagsBut.calm (t := s.cleanEngine m) h .of_frame))
  | cleanupNoticePart m => exact happens he (h.takePart (State.TagsBut.calm (t := s.cleanNotices m) h .of_frame))
  | cleanupLeasePart m => exact happens he (h.takePart (State.TagsBut.calm (t := s.cleanLeases m) h .of_frame))
  | cleanupWindowPart m => exact happens he (h.takePart (h.calm (.cleanWindows s m)))
  | cleanupTargetPart m i => exact happens he (h.takePart (h.cleanTarget m i))
  | steeringDecision m => exact happens he (h.decideHead m)
  | eventPortRead m => exact happens he decides
  | noticeMaskWrite m => exact happens he decides
  | controlPageWrite m => exact happens he decides
  | commandTake =>
    refine happens he ?_
    split
    · next m _ => exact h.calm (.takeSlot s m)
    · exact h
  | defineWindow => exact onTable he (.defineWindowEffect s) (defineWindowEffect_ports s)
  | setRoute => exact onTable he (.setRouteEffect s) (setRouteEffect_ports s)
  | setAccess => exact onTable he (.setAccessEffect s) (setAccessEffect_ports s)
  | enableWindow => exact onTable he (.enableWindowEffect s) (enableWindowEffect_ports s)
  | disableWindow => exact onTable he (.disableWindowEffect s) (disableWindowEffect_ports s)
  | retireWindow => exact onTable he (.retireWindowEffect s) (retireWindowEffect_ports s)
  | windowRetired w => exact happens he (h.finishRetirement w)
  | setDefault => exact onTable he (.setDefaultEffect s) (setDefaultEffect_ports s)
  | queryWindow => exact onTable he (.queryWindowEffect s) (queryWindowEffect_ports s)
  | claim => exact atBlock he (.claimEffect s) (claimEffect_ports s)
  | renew => exact atBlock he (.renewEffect s) (renewEffect_ports s)
  | release => exact atBlock he (.releaseEffect s) (releaseEffect_ports s)
  | withdraw => exact atBlock he (.withdrawEffect s) (withdrawEffect_ports s)
  | revoke => exact atBlock he (.revokeEffect s) (revokeEffect_ports s)
  | setTick => exact atBlock he (.setTickEffect s) (setTickEffect_ports s)
  | setTarget => exact atBlock he (.setTargetEffect s) (setTargetEffect_ports s)
  | queryTarget => exact atBlock he (.queryTargetEffect s) (queryTargetEffect_ports s)
  | fenceTarget => exact happens he (h.takeDelivered h.fenceEffect)
  | unfenceTarget => exact atBlock he (.unfenceEffect s) (unfenceEffect_ports s)
  | fenceDone i => exact happens he (h.finishDrain i)
  | xidGrant i => exact happens he (h.xidGrant i)
  | mirrorXidGrant i => exact happens he (h.mirrorXidGrant i)
  | targetCompletion i f => exact happens he (by split <;> [exact h.takeAnswer i f; exact h])
  | targetLinkDown i => exact happens he (by split <;> [exact h.linkDown i; exact h])
  | targetLinkTrains i => exact still he (.setLink s i .up) (by simp)

theorem step_tagsBut (h : s.TagsBut none) (hs : step s = .next t) : t.TagsBut none := by
  unfold step at hs
  split at hs
  · next c rest _ =>
    have queue : State.TagsBut { s with pending := rest } none := h.calm (.of_frame rfl rfl rfl rfl) rfl
    exact exec_tagsBut queue hs
  · unfold idle happening at hs
    cases hs
    split
    · dsimp only
      split
      · exact h.tickPart _
      · exact h.calm (.refclk s) (by unfold State.refclk; split <;> rfl)
    · exact h

/-- Settles O56: every command, and every idle step, moves a tag with the request that carries it, or frees it with the
completion. -/
theorem everyTagHasItsOneRequest : Obligations.EveryTagHasItsOneRequest := by
  unfold Obligations.EveryTagHasItsOneRequest
  exact fun s t h hs => t.tagsOk_iff.mpr (step_tagsBut (s.tagsOk_iff.mp h) hs)

end Sys2Proof.Machine
end

section
/-! The front command: what a step does on a queue that is not empty. -/

namespace Sys2Proof.Machine

/-- Settles O1: the queue's shape chooses the step's first case, and that case is the front command's effect. -/
theorem stepRunsTheFrontCommand : Obligations.StepRunsTheFrontCommand := by
  intro c rest s front
  unfold step
  rw [front]

end Sys2Proof.Machine
end

section
/-! Handoffs: what a handoff does, and what the lease rules ask of it (R58, R70). -/

namespace Sys2Proof.Machine

-- One proof after the other, as in the tests: together they would take too many threads, and their stacks too much memory.
set_option Elab.async false

variable {s t u : State} {w w' : WindowId} {m : MasterId}

/-! ### A handoff (R58, R70) -/

theorem mem_queueOf {c : WaitingClaim} : c ∈ s.queueOf w ↔ c ∈ s.claims ∧ c.window = w := by simp [State.queueOf]

theorem queueOf_eq_nil_iff : s.queueOf w = [] ↔ ∀ c ∈ s.claims, c.window ≠ w := by simp [State.queueOf]

/-- A window that is held, or that nobody waits for, is not handed on. -/
theorem handOff_of_idle (h : s.lease w ≠ none ∨ s.queueOf w = []) : s.handOff w = s := by
  unfold State.handOff
  split
  · next hl hq => simp [hl, hq] at h
  · rfl

/-- An unheld window goes to its oldest waiting claim. -/
theorem handOff_of_cons {k : WaitingClaim} {rest : List WaitingClaim} (hl : s.lease w = none) (hq : s.queueOf w = k :: rest) :
    s.handOff w = ((s.setClaims (s.claims.eraseP fun d => decide (d.window = w))).setLease w (some k.lease)).post k.claimant
      (.granted w k.duration) := by
  unfold State.handOff
  rw [hl, hq]
  rfl

/-- The oldest waiting claim is the one that a handoff takes out of the pool. -/
theorem claims_split_of_queueOf {k : WaitingClaim} {rest : List WaitingClaim} (hq : s.queueOf w = k :: rest) :
    ∃ before after, s.claims = before ++ k :: after ∧ (s.claims.eraseP fun d => decide (d.window = w)) = before ++ after ∧
      k.window = w := by
  have found : s.claims.find? (fun d => decide (d.window = w)) = some k := by
    rw [← List.head?_filter]
    exact congrArg List.head? hq
  obtain ⟨before, after, hs, he⟩ := eraseP_of_find? found
  exact ⟨before, after, hs, he, (mem_queueOf.mp (hq ▸ List.mem_cons_self)).2⟩

end Sys2Proof.Machine
end

section
/-! Leases: every step keeps the leases and the waiting claims legal (O52). -/

namespace Sys2Proof.Machine

-- One proof after the other, as in the tests: together they would take too many threads, and their stacks too much memory.
set_option Elab.async false

variable {s t u : State} {w w' : WindowId} {m : MasterId}

/-! ### What the lease rules read -/

/-- Leases may stand on the window: it is DEFINED or ACTIVE, and its policy is not NONE (R45, R48). -/
def WindowRecord.Leasable (r : WindowRecord) : Prop := r.state.takesClaims = true ∧ r.policy ≠ .none

/-- The claim is for a window that another master holds (R64). -/
def State.HeldFromClaimant (s : State) (c : WaitingClaim) : Prop := ∃ l, s.lease c.window = some l ∧ l.holder ≠ c.claimant

/-- The lease rules, one part for each thing they speak of (R45, R63, R64). -/
theorem State.leasesOk_iff (s : State) :
    s.leasesOk ↔ s.claims.length ≤ Config.poolSlots ∧ s.claims.Pairwise WaitingClaim.apart ∧ (∀ c ∈ s.claims, c.ok) ∧
      (∀ c ∈ s.claims, s.HeldFromClaimant c) ∧ (∀ w l, s.lease w = some l → l.ok) ∧
      ∀ w l, s.lease w = some l → (s.window w).Leasable := by
  have held (c : WaitingClaim) :
      (s.holder c.window).any (fun h => decide (h ≠ c.claimant)) = true ↔ s.HeldFromClaimant c := by
    unfold State.holder State.HeldFromClaimant
    cases s.lease c.window <;> simp
  unfold State.leasesOk
  simp only [held]
  constructor
  · rintro ⟨room, apart, claims, leases⟩
    exact ⟨room, apart, fun c hc => (claims c hc).1, fun c hc => (claims c hc).2, fun w l hl => (leases w l hl).1,
      fun w l hl => (leases w l hl).2⟩
  · rintro ⟨room, apart, claims, held, leases, leasable⟩
    exact ⟨room, apart, fun c hc => ⟨claims c hc, held c hc⟩, fun w l hl => ⟨leases w l hl, leasable w l hl⟩⟩

/-- The lease rules while window `w` has lost its lease and has not been handed on yet: its claims still wait for it (R57, R58). -/
structure State.Vacated (s : State) (w : WindowId) : Prop where
  room : s.claims.length ≤ Config.poolSlots
  apart : s.claims.Pairwise WaitingClaim.apart
  claims : ∀ c ∈ s.claims, c.ok
  held : ∀ c ∈ s.claims, c.window ≠ w → s.HeldFromClaimant c
  waiting : ∀ c ∈ s.claims, c.window = w → (s.window w).Leasable
  leases : ∀ w' l, s.lease w' = some l → l.ok
  leasable : ∀ w' l, s.lease w' = some l → (s.window w').Leasable
  vacant : s.lease w = none

/-- A lease taken off a window of a part that keeps the lease rules; the notices posted meanwhile do not count. -/
theorem State.Vacated.of_leasesOk (h : s.leasesOk) (hc : t.claims = s.claims) (hw : t.windows = s.windows)
    (hl : t.leases = s.leases.put w none) : t.Vacated w := by
  obtain ⟨room, apart, claims, held, leases, leasable⟩ := s.leasesOk_iff.mp h
  have window (w' : WindowId) : t.window w' = s.window w' := by simp [State.window, hw]
  have lease (w' : WindowId) : t.lease w' = if w = w' then none else s.lease w' := by simp [State.lease, hl]
  have still {w' : WindowId} {l : Lease} (e : t.lease w' = some l) : s.lease w' = some l := by
    rw [lease] at e
    split at e
    · cases e
    · exact e
  refine ⟨hc ▸ room, hc ▸ apart, hc ▸ claims, fun c hm hn => ?_, fun c hm e => ?_, fun w' l e => leases w' l (still e),
    fun w' l e => window w' ▸ leasable w' l (still e), by simp [lease]⟩
  · obtain ⟨l, hl, ho⟩ := held c (hc ▸ hm)
    exact ⟨l, by rw [lease, if_neg (Ne.symm hn), hl], ho⟩
  · obtain ⟨l, hl, -⟩ := held c (hc ▸ hm)
    exact window w ▸ leasable w l (e ▸ hl)

/-- The lease rules read the claims, the leases and the windows alone. -/
theorem leasesOk_of_frame (h : s.leasesOk) (hc : t.claims = s.claims := by simp) (hl : t.leases = s.leases := by simp)
    (hw : t.windows = s.windows := by simp) : t.leasesOk := by
  simpa only [State.leasesOk, State.leaseStands, State.holder, State.lease, State.window, hc, hl, hw] using h

/-! ### Claims that leave the pool -/

/-- Fewer claims wait, in the order in which they joined. -/
theorem leasesOk_setClaims {l : List WaitingClaim} (h : s.leasesOk) (hl : l.Sublist s.claims) : (s.setClaims l).leasesOk := by
  obtain ⟨room, apart, claims, leases⟩ := h
  exact ⟨hl.length_le.trans room, apart.sublist hl, fun c hc => claims c (hl.subset hc), leases⟩

theorem leasesOk_removeClaim (h : s.leasesOk) (w : WindowId) (m : MasterId) : (s.removeClaim w m).leasesOk :=
  leasesOk_setClaims h List.eraseP_sublist

/-! ### The end of a lease (R51, R55 to R59) -/

theorem WaitingClaim.ok.lease {c : WaitingClaim} (h : c.ok) : c.lease.ok := by
  obtain ⟨h1, h2, h3, -⟩ := h
  exact ⟨h1, Nat.le_refl _, h2, h3, Nat.zero_le _, MasterSet.get_empty _⟩

/-- A handoff brings the lease rules back: the oldest claimant becomes the holder, and every other claim for the window is another
master's (R58, R64). -/
theorem leasesOk_handOff (h : s.Vacated w) : (s.handOff w).leasesOk := by
  obtain ⟨room, apart, claims, held, waiting, leases, leasable, vacant⟩ := h
  cases hq : s.queueOf w with
  | nil =>
    rw [handOff_of_idle (.inr hq)]
    exact s.leasesOk_iff.mpr ⟨room, apart, claims, fun c hc => held c hc (queueOf_eq_nil_iff.mp hq c hc), leases, leasable⟩
  | cons k rest =>
    obtain ⟨before, after, hs, he, hk⟩ := claims_split_of_queueOf hq
    have sub : (before ++ after).Sublist s.claims := hs ▸ (List.sublist_cons_self k after).append_left before
    have hkm : k ∈ s.claims := by simp [hs]
    have others : ∀ c ∈ before ++ after, c.window = w → k.claimant ≠ c.claimant := by
      intro c hc hcw
      rw [hs, List.pairwise_append, List.pairwise_cons] at apart
      obtain ⟨-, ⟨behind, -⟩, ahead⟩ := apart
      rcases List.mem_append.mp hc with hc | hc
      · exact fun e => (ahead c hc k List.mem_cons_self).elim (· (hcw.trans hk.symm)) (· e.symm)
      · exact fun e => (behind c hc).elim (· (hk.trans hcw.symm)) (· e)
    rw [handOff_of_cons vacant hq, he]
    refine leasesOk_of_frame (State.leasesOk_iff _ |>.mpr ?_) (s := (s.setClaims (before ++ after)).setLease w (some k.lease))
    refine ⟨sub.length_le.trans room, apart.sublist sub, fun c hc => claims c (sub.subset hc), fun c hc => ?_,
      fun w' l hl => ?_, fun w' l hl => ?_⟩
    · by_cases e : c.window = w
      · exact ⟨k.lease, by simp [e], others c hc e⟩
      · obtain ⟨l, hl, ho⟩ := held c (sub.subset hc) e
        exact ⟨l, by simpa [Ne.symm e] using hl, ho⟩
    · rw [State.setLease_lease] at hl
      split at hl
      · cases hl
        exact (claims k hkm).lease
      · exact leases w' l hl
    · rw [State.setLease_lease] at hl
      split at hl
      · next e => exact e ▸ waiting k hkm hk
      · exact leasable w' l hl

theorem leasesOk_endLease (h : s.leasesOk) (w : WindowId) : (s.endLease w).leasesOk :=
  leasesOk_handOff (.of_leasesOk h rfl rfl rfl)

theorem leasesOk_dropLease (h : s.leasesOk) (m : MasterId) (w : WindowId) : (s.dropLease m w).leasesOk := by
  unfold State.dropLease
  split
  · exact leasesOk_endLease h w
  · exact h

/-- An expiry may begin from a lease whose time has just run out (R51). -/
theorem leasesOk_expireLease (h : s.leasesOk) (hc : t.claims = s.claims) (hw : t.windows = s.windows)
    {l : Option Lease} (hl : t.leases = s.leases.put w l) (m : MasterId) : (t.expireLease w m).leasesOk :=
  leasesOk_handOff (.of_leasesOk h (by simpa using hc) (by simpa using hw) (by simp [hl]))

/-! ### One lease -/

/-- The lease on a window changes, and the holder stays. -/
theorem leasesOk_setLease {l l' : Lease} (h : s.leasesOk) (hl : s.lease w = some l) (ho : l'.holder = l.holder) (ok : l'.ok) :
    (s.setLease w (some l')).leasesOk := by
  obtain ⟨room, apart, claims, held, leases, leasable⟩ := s.leasesOk_iff.mp h
  refine State.leasesOk_iff _ |>.mpr ⟨room, apart, claims, fun c hc => ?_, fun w' l'' e => ?_, fun w' l'' e => ?_⟩
  · obtain ⟨k, hk, hn⟩ := held c hc
    by_cases e : w = c.window
    · refine ⟨l', by simp [e], ?_⟩
      obtain rfl : l = k := by simpa [e, hk] using hl.symm
      exact ho ▸ hn
    · exact ⟨k, by simp [e, hk], hn⟩
  · rw [State.setLease_lease] at e
    split at e
    · cases e
      exact ok
    · exact leases w' l'' e
  · rw [State.setLease_lease] at e
    split at e
    · next ew => exact leasable w' l (ew ▸ hl)
    · exact leasable w' l'' e

/-- A lease comes to stand on a window that nobody holds (R48). -/
theorem leasesOk_newLease {l : Lease} (h : s.leasesOk) (hv : s.lease w = none) (hw : (s.window w).Leasable) (ok : l.ok) :
    (s.setLease w (some l)).leasesOk := by
  obtain ⟨room, apart, claims, held, leases, leasable⟩ := s.leasesOk_iff.mp h
  refine State.leasesOk_iff _ |>.mpr ⟨room, apart, claims, fun c hc => ?_, fun w' l' e => ?_, fun w' l' e => ?_⟩
  · obtain ⟨k, hk, hn⟩ := held c hc
    have elsewhere : w ≠ c.window := by
      rintro rfl
      simp [hv] at hk
    exact ⟨k, by simp [elsewhere, hk], hn⟩
  · rw [State.setLease_lease] at e
    split at e
    · cases e
      exact ok
    · exact leases w' l' e
  · rw [State.setLease_lease] at e
    split at e
    · next ew => exact ew ▸ hw
    · exact leasable w' l' e

/-- The lease rules of the leases that stand. -/
theorem State.leasesOk.lease {l : Lease} (h : s.leasesOk) (hl : s.lease w = some l) : l.ok ∧ (s.window w).Leasable := by
  obtain ⟨-, -, -, -, leases, leasable⟩ := s.leasesOk_iff.mp h
  exact ⟨leases w l hl, leasable w l hl⟩

/-! ### Countdowns (R50, R51, R68) -/

theorem Lease.ok.countDown {l : Lease} (h : l.ok) (hr : l.remaining - 1 ≠ 0) : l.countDown.ok := by
  obtain ⟨-, hd, hm, hw, hn, hs⟩ := h
  exact ⟨Nat.one_le_iff_ne_zero.mpr hr, (Nat.sub_le _ _).trans hd, hm, hw, hn, hs⟩

theorem leasesOk_countLease (h : s.leasesOk) (w : WindowId) : (s.countLease w).leasesOk := by
  unfold State.countLease
  split
  · exact h
  · next l hl =>
    split
    · dsimp only
      split
      · refine leasesOk_expireLease h (l := some l.countDown) ?_ ?_ ?_ l.holder <;> split <;> simp
      · next hr =>
        have counted := leasesOk_setLease (l' := l.countDown) h hl rfl ((h.lease hl).1.countDown hr)
        split
        · exact leasesOk_of_frame counted
        · exact counted
    · exact h

/-- The claim found is the only one in the pool for its window and claimant (R64). -/
theorem claimOf_alone {c : WaitingClaim} (h : s.claims.Pairwise WaitingClaim.apart) (hc : s.claimOf w m = some c) :
    ∃ before after, s.claims = before ++ c :: after ∧ c.isFor w m = true ∧ ∀ d ∈ before ++ after, d.isFor w m = false := by
  obtain ⟨hf, before, after, hs, hb⟩ := List.find?_eq_some_iff_append.mp hc
  refine ⟨before, after, hs, hf, fun d hd => ?_⟩
  rcases List.mem_append.mp hd with hd | hd
  · simpa using hb d hd
  · rw [hs, List.pairwise_append, List.pairwise_cons] at h
    obtain ⟨-, ⟨behind, -⟩, -⟩ := h
    have apart := behind d hd
    simp only [WaitingClaim.isFor, Bool.and_eq_true, decide_eq_true_eq] at hf
    obtain ⟨rfl, rfl⟩ := hf
    simp only [WaitingClaim.isFor, Bool.and_eq_false_iff, decide_eq_false_iff_not]
    exact apart.imp Ne.symm Ne.symm

/-- A claim with a wait that has not run out changes in its place. -/
theorem leasesOk_replaceClaim {before after : List WaitingClaim} {c c' : WaitingClaim} (h : s.leasesOk)
    (hs : s.claims = before ++ c :: after) (hw : c'.window = c.window) (hc : c'.claimant = c.claimant) (ok : c'.ok) :
    (s.setClaims (before ++ c' :: after)).leasesOk := by
  obtain ⟨room, apart, claims, held, leases, leasable⟩ := s.leasesOk_iff.mp h
  rw [hs] at room apart claims held
  refine State.leasesOk_iff _ |>.mpr ⟨by simpa using room, ?_, ?_, ?_, leases, leasable⟩
  · simpa [List.pairwise_append, WaitingClaim.apart, hw, hc] using apart
  · simp only [State.setClaims_claims, List.forall_mem_append, List.forall_mem_cons] at claims ⊢
    exact ⟨claims.1, ok, claims.2.2⟩
  · simp only [State.setClaims_claims, List.forall_mem_append, List.forall_mem_cons] at held ⊢
    exact ⟨held.1, by simpa [State.HeldFromClaimant, hw, hc] using held.2.1, held.2.2⟩

theorem leasesOk_countClaim (h : s.leasesOk) (w : WindowId) (m : MasterId) : (s.countClaim w m).leasesOk := by
  cases hc : s.claimOf w m with
  | none => simpa [State.countClaim, hc] using h
  | some c =>
    by_cases ho : c.owed = true
    · obtain ⟨before, after, hs, hf, alone⟩ := claimOf_alone h.2.1 hc
      by_cases hz : c.waitRemaining.map (· - 1) = some 0
      · rw [countClaim_lapses hs (List.forall_mem_append.mp alone).1 hf ho hz]
        exact leasesOk_of_frame (s := s.setClaims (before ++ after))
          (leasesOk_setClaims h (hs ▸ (List.sublist_cons_self c after).append_left before))
      · rw [countClaim_runs hs alone hf ho hz]
        obtain ⟨h1, h2, h3, hwait⟩ := (h.2.2.1 c (by simp [hs])).1
        refine leasesOk_replaceClaim (c := c) h hs rfl rfl ⟨h1, h2, h3, fun n hn => ?_⟩
        obtain ⟨k, hk, rfl⟩ := Option.map_eq_some_iff.mp hn
        have := hwait k hk
        simp only [hk, Option.map_some, Option.some.injEq] at hz
        omega
    · simpa [State.countClaim, hc, ho] using h

theorem leasesOk_takeOwedLeases (h : s.leasesOk) : s.takeOwedLeases.leasesOk :=
  foldl_invariant State.leasesOk _ (fun _ _ h => leasesOk_countClaim h _ _) _ _
    (foldl_invariant State.leasesOk _ (fun _ _ h => leasesOk_countLease h _) _ _ h)

end Sys2Proof.Machine
end

section
/-! Leases: the lease commands, the retirements and the rest of what a step does to the lease manager (O52). -/

namespace Sys2Proof.Machine

-- One proof after the other, as in the tests: together they would take too many threads, and their stacks too much memory.
set_option Elab.async false

variable {s t u : State} {w w' : WindowId} {m : MasterId}

/-! ### Leases whose marks alone change (R30, R43, R59, R61, R74) -/

/-- A lease but for the marks that say what it still owes and who has been reported: these may change, but the holder does not
join its own reported set (R61). -/
structure Lease.Marked (l l' : Lease) : Prop where
  same : l' = { l with reported := l'.reported, owed := l'.owed }
  reported : l.reported.get l.holder = false → l'.reported.get l.holder = false

theorem Lease.Marked.refl (l : Lease) : l.Marked l := ⟨rfl, id⟩

theorem Lease.Marked.holder {l l' : Lease} (h : l.Marked l') : l'.holder = l.holder := by rw [h.same]

theorem Lease.Marked.trans {l l' l'' : Lease} (h : l.Marked l') (h' : l'.Marked l'') : l.Marked l'' := by
  refine ⟨?_, fun e => ?_⟩
  · rw [h'.same, h.same]
  · have := h'.reported
    rw [h.holder] at this
    exact this (h.reported e)

theorem Lease.Marked.ok {l l' : Lease} (h : l.Marked l') (ok : l.ok) : l'.ok := by
  obtain ⟨h1, h2, h3, h4, h5, h6⟩ := ok
  have reported := h.reported h6
  rw [← h.holder] at reported
  rw [h.same] at reported ⊢
  exact ⟨h1, h2, h3, h4, h5, reported⟩

/-- Between the two states no lease begins, ends or runs on, and no claim joins the pool or leaves it. -/
structure State.LeasesRest (s t : State) : Prop where
  claims : t.claims = s.claims
  leases : ∀ w, Option.Rel Lease.Marked (s.lease w) (t.lease w)

theorem Lease.Marked.rel_refl (l : Option Lease) : Option.Rel Lease.Marked l l := by
  cases l with
  | none => exact .none
  | some l => exact .some (.refl l)

theorem State.LeasesRest.of_frame (hc : t.claims = s.claims := by simp) (hl : t.leases = s.leases := by simp) :
    s.LeasesRest t :=
  ⟨hc, fun w => by rw [show t.lease w = s.lease w by simp [State.lease, hl]]; exact Lease.Marked.rel_refl _⟩

theorem State.LeasesRest.refl (s : State) : s.LeasesRest s := .of_frame rfl rfl

theorem State.LeasesRest.trans (h : s.LeasesRest t) (h' : t.LeasesRest u) : s.LeasesRest u := by
  refine ⟨h'.claims.trans h.claims, fun w => ?_⟩
  have first := h.leases w
  have second := h'.leases w
  revert first second
  generalize s.lease w = l, t.lease w = l', u.lease w = l''
  intro first second
  cases first with
  | none => exact second
  | some hl => cases second with | some hl' => exact .some (hl.trans hl')

theorem State.LeasesRest.foldl {α : Type} {f : State → α → State} (h : ∀ (s : State) a, s.LeasesRest (f s a)) (l : List α)
    (s : State) : s.LeasesRest (l.foldl f s) :=
  foldl_invariant s.LeasesRest f (fun t a ht => ht.trans (h t a)) l s (.refl s)

/-- Where the leases rest and a window that could be leased still can, the lease rules stand. -/
theorem State.LeasesRest.leasesOk (hr : s.LeasesRest t) (hw : ∀ w, (s.window w).Leasable → (t.window w).Leasable)
    (h : s.leasesOk) : t.leasesOk := by
  obtain ⟨room, apart, claims, held, leases, leasable⟩ := s.leasesOk_iff.mp h
  have back {w : WindowId} {l' : Lease} (e : t.lease w = some l') : ∃ l, s.lease w = some l ∧ l.Marked l' := by
    have hl := hr.leases w
    rw [e] at hl
    cases hs : s.lease w with
    | none => rw [hs] at hl; cases hl
    | some l => rw [hs] at hl; cases hl with | some hl => exact ⟨l, rfl, hl⟩
  refine t.leasesOk_iff.mpr ⟨hr.claims ▸ room, hr.claims ▸ apart, hr.claims ▸ claims, fun c hc => ?_, fun w l' e => ?_,
    fun w l' e => ?_⟩
  · obtain ⟨l, hl, ho⟩ := held c (hr.claims ▸ hc)
    have rel := hr.leases c.window
    rw [hl] at rel
    cases ht : t.lease c.window with
    | none => rw [ht] at rel; cases rel
    | some l' =>
      rw [ht] at rel
      cases rel with | some rel => exact ⟨l', ht, rel.holder ▸ ho⟩
  · obtain ⟨l, hl, marked⟩ := back e
    exact marked.ok (leases w l hl)
  · obtain ⟨l, hl, -⟩ := back e
    exact hw w (leasable w l hl)

/-- Every lease changes in its marks alone. -/
theorem leasesOk_mapLeases {f : Lease → Lease} (hf : ∀ l : Lease, l.Marked (f l)) (h : s.leasesOk) :
    State.leasesOk { s with leases := s.leases.each fun l => l.map f } := by
  have rest : s.LeasesRest { s with leases := s.leases.each fun l => l.map f } := by
    refine ⟨rfl, fun w => ?_⟩
    simp only [State.lease, Table.get_each]
    cases s.leases.get w with
    | none => exact .none
    | some l => exact .some (hf l)
  have windows (w : WindowId) : State.window { s with leases := s.leases.each fun l => l.map f } w = s.window w := by
    simp only [State.window]
  exact rest.leasesOk (fun w hw => by rwa [windows]) h

theorem leasesOk_oweAtLeases (h : s.leasesOk) : s.oweAtLeases.leasesOk := by
  have leases := leasesOk_mapLeases (f := Lease.owing) (fun l => ⟨rfl, id⟩) h
  obtain ⟨room, apart, claims, held⟩ := leases
  refine ⟨by simpa [State.oweAtLeases] using room, ?_, ?_, held⟩
  · simpa [State.oweAtLeases, List.pairwise_map, WaitingClaim.owing] using apart
  · intro c hc
    obtain ⟨d, hd, rfl⟩ := List.mem_map.mp hc
    exact claims d hd

/-! ### The lease manager's part of a cleanup (R59) -/

theorem leasesOk_cleanLeases (h : s.leasesOk) (m : MasterId) : (s.cleanLeases m).leasesOk :=
  leasesOk_mapLeases (fun l => ⟨rfl, fun hl => by simp [hl]⟩)
    (foldl_invariant State.leasesOk _ (fun _ w h => leasesOk_dropLease h m w) allWindows _
      (leasesOk_setClaims h List.filter_sublist))

/-! ### The lease commands (R48, R53, R55, R56, R65, R71) -/

/-- A claim joins the pool behind the others (R65). -/
theorem leasesOk_joinQueue {kind : LeaseKind} {duration waitLimit warnAt : Nat} (h : s.leasesOk)
    (hf : claimFieldsOk duration waitLimit warnAt = true) (hh : s.holder w ≠ some m) (hn : s.holder w ≠ none)
    (hc : s.claimOf w m = none) : (s.joinQueue m w kind duration waitLimit warnAt).1.leasesOk := by
  unfold State.joinQueue
  split
  · exact h
  · next hz =>
    split
    · exact h
    · next hp =>
      obtain ⟨room, apart, claims, held, leases⟩ := s.leasesOk_iff.mp h
      simp only [claimFieldsOk, Bool.and_eq_true, decide_eq_true_eq] at hf
      obtain ⟨⟨⟨⟨h1, h2⟩, -⟩, h4⟩, h5⟩ := hf
      obtain ⟨l, hl⟩ : ∃ l, s.lease w = some l := by
        simpa [State.holder, Option.ne_none_iff_exists'] using hn
      have ho : l.holder ≠ m := by simpa [State.holder, hl] using hh
      simp only [State.claimOf, List.find?_eq_none] at hc
      refine State.leasesOk_iff _ |>.mpr ⟨?_, ?_, ?_, ?_, leases⟩
      · simp only [State.setClaims_claims, List.length_append, List.length_singleton]
        omega
      · simp only [State.setClaims_claims, List.pairwise_append, List.pairwise_singleton, List.mem_singleton]
        refine ⟨apart, trivial, fun c hcm d hd => ?_⟩
        subst hd
        simpa [WaitingClaim.isFor, WaitingClaim.apart, imp_iff_not_or] using hc c hcm
      · simp only [State.setClaims_claims, List.forall_mem_append, List.forall_mem_singleton]
        refine ⟨claims, h1, h2, h4, fun n hw => ?_⟩
        simp only [waitOf] at hw
        split at hw
        · cases hw
        · cases hw
          omega
      · simp only [State.setClaims_claims, List.forall_mem_append, List.forall_mem_singleton]
        exact ⟨held, l, hl, ho⟩

theorem leasesOk_claimEffect (h : s.leasesOk) (m : MasterId) (a : Args) : (claimEffect s m a).1.leasesOk := by
  unfold claimEffect
  split
  · exact h
  · split
    · exact h
    · repeat' split
      · exact h
      · exact h
      · exact h
      · exact h
      · exact h
      · next hf hs hp hh hc hv =>
        simp only [claimFieldsOk, Bool.not_eq_true', Bool.not_eq_false, Bool.and_eq_true, decide_eq_true_eq] at hf
        obtain ⟨⟨⟨⟨h1, h2⟩, -⟩, h4⟩, -⟩ := hf
        exact leasesOk_newLease h (by simpa [State.holder] using hv) ⟨by simpa using hs, hp⟩
          ⟨h1, Nat.le_refl _, h2, h4, Nat.zero_le _, MasterSet.get_empty _⟩
      · next hf _ _ hh hc hv => exact leasesOk_joinQueue h (by simpa using hf) hh hv (by simpa using hc)

theorem leasesOk_renewEffect (h : s.leasesOk) (m : MasterId) (a : Args) : (renewEffect s m a).1.leasesOk := by
  unfold renewEffect
  split
  · exact h
  · split
    · exact h
    · next hd =>
      split
      · exact h
      · next l hl =>
        repeat' split
        · exact h
        · exact h
        · exact h
        · next hw _ =>
          obtain ⟨h1, h2, h3, h4, h5, h6⟩ := (h.lease hl).1
          refine leasesOk_setLease h hl rfl ?_
          unfold Lease.renewed
          dsimp only [Lease.ok]
          refine ⟨?_, Nat.le_refl _, ?_, ?_, Nat.min_le_right _ _, h6⟩ <;> split <;> omega

theorem leasesOk_releaseEffect (h : s.leasesOk) (m : MasterId) (a : Args) : (releaseEffect s m a).1.leasesOk := by
  unfold releaseEffect
  repeat' split
  · exact h
  · exact h
  · exact leasesOk_endLease h _

theorem leasesOk_withdrawEffect (h : s.leasesOk) (m : MasterId) (a : Args) : (withdrawEffect s m a).1.leasesOk := by
  unfold withdrawEffect
  repeat' split
  · exact h
  · exact leasesOk_removeClaim h _ m
  · exact h

theorem leasesOk_revokeEffect (h : s.leasesOk) (m : MasterId) (a : Args) : (revokeEffect s m a).1.leasesOk := by
  unfold revokeEffect
  repeat' split
  · exact h
  · exact h
  · exact leasesOk_handOff (.of_leasesOk h (by simp) (by simp) (by simp))

/-! ### Window records (R7 to R13, R16, R19) -/

/-- The record of a window changes, and one that is held can still be leased. -/
theorem leasesOk_setWindow {r : WindowRecord} (h : s.leasesOk) (hr : s.lease w ≠ none → (s.window w).Leasable → r.Leasable) :
    (s.setWindow w r).leasesOk := by
  obtain ⟨room, apart, claims, held, leases, leasable⟩ := s.leasesOk_iff.mp h
  refine State.leasesOk_iff _ |>.mpr ⟨room, apart, claims, held, leases, fun w' l hl => ?_⟩
  rw [State.setWindow_window]
  split
  · next e =>
    subst e
    exact hr (by simp [show s.lease w = some l from hl]) (leasable w l hl)
  · exact leasable w' l hl

theorem WindowRecord.Stays.leasable {r r' : WindowRecord} (h : r.Stays r') (hl : r.Leasable) : r'.Leasable := by
  rcases h.kept with he | ⟨hs, -⟩
  · rw [he]
    exact hl
  · simp [WindowRecord.Leasable, hs, WindowState.takesClaims] at hl

/-- A happening that leaves the map and the leases where they are keeps the lease rules. -/
theorem leasesOk_stays (h : s.leasesOk) (hm : s.MapStays t) (hr : s.LeasesRest t := by exact .of_frame) : t.leasesOk :=
  hr.leasesOk (fun w => (hm.windows w).leasable) h

theorem leasesOk_defineWindowEffect (h : s.leasesOk) (m : MasterId) (a : Args) : (defineWindowEffect s m a).1.leasesOk := by
  unfold defineWindowEffect
  repeat' split
  · exact h
  · exact h
  · exact h
  · exact h
  · exact h
  · next hs _ =>
    refine leasesOk_setWindow h fun _ hl => absurd hl.1 ?_
    simp [not_not.mp hs, WindowState.takesClaims]

theorem leasesOk_setRouteEffect (h : s.leasesOk) (m : MasterId) (a : Args) : (setRouteEffect s m a).1.leasesOk := by
  unfold setRouteEffect
  repeat' split
  · exact h
  · exact h
  · exact h
  · exact h
  · exact h
  · exact leasesOk_setWindow h fun _ hl => hl
  · exact h
  · exact h
  · exact h
  · exact leasesOk_setWindow h fun _ hl => hl

/-- A held window is not given the policy NONE (R9). -/
theorem leasesOk_setAccessEffect (h : s.leasesOk) (m : MasterId) (a : Args) : (setAccessEffect s m a).1.leasesOk := by
  unfold setAccessEffect
  repeat' split
  · exact h
  · exact h
  · exact h
  · exact h
  · next hp =>
    refine leasesOk_setWindow h fun held hl => ⟨hl.1, fun e => hp ⟨e, ?_⟩⟩
    exact Option.ne_none_iff_isSome.mp held

theorem leasesOk_enableWindowEffect (h : s.leasesOk) (m : MasterId) (a : Args) : (enableWindowEffect s m a).1.leasesOk := by
  unfold enableWindowEffect
  repeat' split
  · exact h
  · exact h
  · exact leasesOk_setWindow h fun _ hl => ⟨rfl, hl.2⟩

theorem leasesOk_disableWindowEffect (h : s.leasesOk) (m : MasterId) (a : Args) : (disableWindowEffect s m a).1.leasesOk := by
  unfold disableWindowEffect
  repeat' split
  · exact h
  · exact h
  · exact leasesOk_setWindow h fun _ hl => ⟨rfl, hl.2⟩

/-- A window that nobody holds may leave the table. -/
theorem leasesOk_leaveTable (h : s.leasesOk) (hv : s.lease w = none) (m : MasterId) : (s.leaveTable w m).1.leasesOk := by
  unfold State.leaveTable
  split
  · exact leasesOk_of_frame (s := s.setWindow w WindowRecord.freeRecord) (leasesOk_setWindow h fun held => absurd hv held)
  · exact leasesOk_setWindow h fun held => absurd hv held

/-- A forced retirement takes the lease and the claims of the window away, and the notices with them (R13, R73). -/
theorem forceOut_leases (s : State) (w : WindowId) (m : MasterId) :
    (s.forceOut w m).claims = s.claims.filter (fun c => decide (c.window ≠ w)) ∧
      (s.forceOut w m).leases = s.leases.put w none ∧ (s.forceOut w m).windows = s.windows := by
  have posts (l : List WaitingClaim) (t : State) :
      let told := l.foldl (fun s c => s.post c.claimant (.claimLapsed w .retired)) t
      told.claims = t.claims ∧ told.leases = t.leases ∧ told.windows = t.windows :=
    ⟨foldl_keeps (·.claims) _ (by simp) l t, foldl_keeps (·.leases) _ (by simp) l t, foldl_keeps (·.windows) _ (by simp) l t⟩
  unfold State.forceOut
  refine ⟨(posts _ _).1, (posts _ _).2.1.trans ?_, (posts _ _).2.2.trans ?_⟩
  · split
    · simp
    · next hh =>
      have unheld : s.leases.get w = none := by simpa [State.holder, State.lease] using hh
      rw [State.setClaims_leases, ← unheld, Table.put_get_self]
  · split <;> simp

/-- After a forced retirement nobody holds the window or waits for it. -/
theorem leasesOk_forceOut (h : s.leasesOk) (w : WindowId) (m : MasterId) :
    (s.forceOut w m).leasesOk ∧ (s.forceOut w m).lease w = none := by
  obtain ⟨hc, hl, hw⟩ := forceOut_leases s w m
  have gone : (s.forceOut w m).lease w = none := by simp [State.lease, hl]
  have vacated : ((s.setLease w none).setClaims (s.claims.filter fun c => decide (c.window ≠ w))).Vacated w := by
    obtain ⟨room, apart, claims, held, waiting, leases, leasable, vacant⟩ :=
      State.Vacated.of_leasesOk (t := s.setLease w none) h rfl rfl rfl
    have sub : (s.claims.filter fun c => decide (c.window ≠ w)).Sublist s.claims := List.filter_sublist
    exact ⟨sub.length_le.trans room, apart.sublist sub, fun c hm => claims c (sub.subset hm),
      fun c hm => held c (sub.subset hm), fun c hm => waiting c (sub.subset hm), leases, leasable, vacant⟩
  have rules := leasesOk_handOff vacated
  rw [handOff_of_idle (.inr (queueOf_eq_nil_iff.mpr fun c hm => by simpa using (List.mem_filter.mp hm).2))] at rules
  exact ⟨leasesOk_of_frame rules hc hl hw, gone⟩

theorem leasesOk_retireWindowEffect (h : s.leasesOk) (m : MasterId) (a : Args) : (retireWindowEffect s m a).1.leasesOk := by
  unfold retireWindowEffect
  repeat' split
  · exact h
  · exact h
  · exact h
  · obtain ⟨out, vacant⟩ := leasesOk_forceOut h _ m
    exact leasesOk_leaveTable out vacant m
  · exact h
  · next hv => exact leasesOk_leaveTable h (by simpa using hv) m

/-! ### Steering decisions (R28, R30) -/

theorem leaseCheck_heldElsewhere {k : Kind} (h : s.leaseCheck m w k = some .heldElsewhere) :
    ∃ l, s.lease w = some l ∧ l.holder ≠ m := by
  unfold State.leaseCheck at h
  split at h
  · next l hl =>
    split at h
    · cases h
    · next hn => exact ⟨l, hl, hn⟩
  · split at h <;> cases h

theorem oneTarget_ne_heldElsewhere (s : State) (i : TargetId) (b : Binding) (w : WindowId) :
    s.oneTarget i b ≠ .heldElsewhere w := by
  unfold State.oneTarget
  split <;> nofun

theorem twoTargets_ne_heldElsewhere (s : State) (g : Nat) (w : WindowId) (t1 : TargetId) (a1 : Word) (t2 : TargetId) (a2 : Word)
    (w' : WindowId) : s.twoTargets g w t1 a1 t2 a2 ≠ .heldElsewhere w' := by
  unfold State.twoTargets
  split <;> nofun

theorem countLimited_heldElsewhere {d : Decision} (h : s.countLimited w d = .heldElsewhere w') : d = .heldElsewhere w' := by
  cases d with
  | bind b =>
    dsimp only [State.countLimited] at h
    split at h <;> cases h
  | _ => exact h

/-- A route refuses nobody for a lease: the lease check comes before it (R23). -/
theorem routeDecision_ne_heldElsewhere (s : State) (m : MasterId) (w w' : WindowId) (r : Request) :
    s.routeDecision m w r ≠ .heldElsewhere w' := by
  intro h
  unfold State.routeDecision at h
  dsimp only at h
  split at h
  · split at h
    · cases h
    · cases h
    · exact oneTarget_ne_heldElsewhere s _ _ _ (countLimited_heldElsewhere h)
  · split at h
    · cases h
    · cases h
    · exact oneTarget_ne_heldElsewhere s _ _ _ (countLimited_heldElsewhere h)
    · exact twoTargets_ne_heldElsewhere s _ _ _ _ _ _ _ (countLimited_heldElsewhere h)

/-- A request is refused HELD_ELSEWHERE for a lease that another master holds (R28). -/
theorem steered_heldElsewhere {r : Request} (h : s.steered m r = .heldElsewhere w) :
    ∃ l, s.lease w = some l ∧ l.holder ≠ m := by
  unfold State.steered at h
  split at h
  · unfold State.defaultDecision State.oneTarget at h
    (repeat' split at h) <;> cases h
  · unfold State.windowDecision at h
    split at h
    · cases h
    · split at h
      · next hc =>
        cases h
        exact leaseCheck_heldElsewhere hc
      · cases h
      · exact absurd h (routeDecision_ne_heldElsewhere s m _ w r)

theorem decision_heldElsewhere {r : Request} (h : s.decision m r = .heldElsewhere w) :
    ∃ l, s.lease w = some l ∧ l.holder ≠ m := by
  unfold State.decision at h
  split at h
  · split at h <;> cases h
  · exact steered_heldElsewhere h

/-- The contention mark of a master other than the holder (R30). -/
theorem State.LeasesRest.markContention (h : ∃ l, s.lease w = some l ∧ l.holder ≠ m) : s.LeasesRest (s.markContention w m) := by
  obtain ⟨l, hl, ho⟩ := h
  unfold State.markContention
  rw [hl]
  dsimp only
  split
  · refine ⟨by simp, fun w' => ?_⟩
    simp only [State.post_frame, State.setLease_lease]
    split
    · next e =>
      rw [← e, hl]
      exact .some ⟨rfl, fun hr => by simpa [Ne.symm ho] using hr⟩
    · exact Lease.Marked.rel_refl _
  · exact .refl s

theorem State.LeasesRest.carryOut {r : Request} {d : Decision}
    (hd : ∀ w, d = .heldElsewhere w → ∃ l, s.lease w = some l ∧ l.holder ≠ m) : s.LeasesRest (s.carryOut m r d) := by
  cases d with
  | controlPage => exact .of_frame (t := s.pageAccess m r)
  | refuse code => exact .of_frame (t := s.refuseHead m r.tag code)
  | heldElsewhere w =>
    have refused : s.LeasesRest (s.refuseHead m r.tag .heldElsewhere) := .of_frame
    exact refused.trans (.markContention (by simpa using hd w rfl))
  | fill => exact .of_frame (t := s.completeHead m _)
  | discard => exact .of_frame (t := s.completeHead m _)
  | bind b => exact .of_frame (t := s.bindHead m b)
  | waitAtLimit => exact .of_frame (t := s.holdHead m)

theorem State.LeasesRest.decideHead (s : State) (m : MasterId) : s.LeasesRest (s.decideHead m) := by
  unfold State.decideHead
  split
  · exact .carryOut fun _ => decision_heldElsewhere
  · exact .refl s

theorem State.LeasesRest.redecideHead (s : State) (m : MasterId) : s.LeasesRest (s.redecideHead m) := by
  unfold State.redecideHead
  split
  · exact .carryOut fun _ => steered_heldElsewhere
  · exact .refl s

theorem State.LeasesRest.redecideHeads (s : State) : s.LeasesRest s.redecideHeads := .foldl State.LeasesRest.redecideHead _ _

theorem State.LeasesRest.redecideAfterFalls (h : s.LeasesRest t) (before : State) :
    s.LeasesRest (t.redecideAfterFalls before) := by
  unfold State.redecideAfterFalls
  split
  · exact h.trans (.redecideHeads t)
  · exact h

/-! ### Target ports and cleanups: the fresh decisions alone reach the leases -/

theorem State.LeasesRest.countAge (s : State) (i : TargetId) (x : Xid) : s.LeasesRest (s.countAge i x) := by
  unfold State.countAge
  split
  · exact .refl s
  · split
    · dsimp only
      split
      · unfold State.timeOut
        exact (State.LeasesRest.of_frame rfl rfl).trans (.redecideAfterFalls .of_frame _)
      · exact .of_frame
    · exact .refl s

theorem State.LeasesRest.takeAnswer (s : State) (i : TargetId) (f : AnswerFrame) : s.LeasesRest (s.takeAnswer i f) := by
  unfold State.takeAnswer
  split
  · exact .of_frame
  · split
    · exact .redecideAfterFalls .of_frame s
    · exact .of_frame

theorem State.LeasesRest.linkDown (s : State) (i : TargetId) : s.LeasesRest (s.linkDown i) := .redecideAfterFalls .of_frame s

theorem State.LeasesRest.fenceEffect (s : State) (m : MasterId) (a : Args) : s.LeasesRest (fenceEffect s m a).1 := by
  have fenced (i : TargetId) : s.LeasesRest (s.startFence i m) := .redecideAfterFalls .of_frame s
  unfold Machine.fenceEffect
  repeat' split
  · exact .refl s
  · exact fenced _
  · exact fenced _
  · exact .refl s
  · exact .of_frame (t := s.joinRequesters _ m)
  · exact .refl s

theorem State.LeasesRest.unfenceEffect (s : State) (m : MasterId) (a : Args) : s.LeasesRest (unfenceEffect s m a).1 := by
  unfold Machine.unfenceEffect
  repeat' split
  · exact .refl s
  · exact .refl s
  · exact .refl s
  · exact .of_frame (t := (s.tellRequesters _ _).restore _ _)
  · exact .refl s
  · exact .of_frame (t := s.restore _ _)
  · exact .of_frame (t := s.restore _ _)
  · exact .refl s

theorem State.LeasesRest.queryTargetEffect (s : State) (m : MasterId) (a : Args) : s.LeasesRest (queryTargetEffect s m a).1 := by
  unfold Machine.queryTargetEffect
  repeat' split
  · exact .refl s
  · exact .refl s
  · exact .of_frame (t := s.setTarget _ _)
  · exact .refl s

theorem State.LeasesRest.startCleanup (s : State) (m : MasterId) : s.LeasesRest (s.startCleanup m) :=
  .redecideAfterFalls .of_frame s

/-! ### Every step -/

theorem leasesOk_redecideHeads (h : s.leasesOk) : s.redecideHeads.leasesOk :=
  leasesOk_stays h (.redecideHeads s) (.redecideHeads s)

theorem leasesOk_decideHead (h : s.leasesOk) (m : MasterId) : (s.decideHead m).leasesOk :=
  leasesOk_stays h (.decideHead s m) (.decideHead s m)

theorem leasesOk_countAge (h : s.leasesOk) (i : TargetId) (x : Xid) : (s.countAge i x).leasesOk :=
  leasesOk_stays h (.countAge s i x) (.countAge s i x)

theorem leasesOk_tickArrives (h : s.leasesOk) (b : TickBlock) : (s.tickArrives b).leasesOk := by
  unfold State.tickArrives
  split
  · exact h
  · cases b with
    | leases =>
      have taken := leasesOk_takeOwedLeases h
      exact leasesOk_oweAtLeases (s := s.takeOwedLeases.setTime _) (leasesOk_of_frame taken)
    | target i =>
      have taken : (s.takeOwedTarget i).leasesOk :=
        foldl_invariant State.leasesOk _ (fun _ x h => leasesOk_countAge h i x) allXids s h
      exact leasesOk_of_frame (t := ((s.takeOwedTarget i).setTime _).setTarget i _) taken

theorem leasesOk_tickPart (h : s.leasesOk) (part : TickPart) : (s.tickPart part).leasesOk := by
  cases part with
  | emit => exact leasesOk_of_frame h rfl rfl rfl
  | arrive b => exact leasesOk_tickArrives h b
  | lease w => exact leasesOk_countLease h w
  | claim w m => exact leasesOk_countClaim h w m
  | age i x => exact leasesOk_countAge h i x

theorem leasesOk_takePart {b : CleanupBlock} {part : State → State} (h : s.leasesOk) (hp : (part s).leasesOk) :
    (s.takePart m b part).leasesOk := by
  unfold State.takePart
  split
  · exact leasesOk_of_frame hp
  · exact h

theorem leasesOk_takeDelivered {k : Command} {effect : State → MasterId → Args → State × Reply} (h : s.leasesOk)
    (he : ∀ m a, (effect s m a).1.leasesOk) : (s.takeDelivered k effect).leasesOk := by
  unfold State.takeDelivered
  split
  · next u _ =>
    split
    · exact leasesOk_of_frame (he u.master u.args)
    · exact h
  · exact h

/-- Every command keeps the lease rules. -/
theorem exec_leasesOk {c : Instr} (hs : s.leasesOk) (h : exec c s = .next t) : t.leasesOk := by
  have happens {effect : State → State} (he : (effect s).leasesOk) (h : happening s effect = .next t) : t.leasesOk := by
    unfold happening at h
    cases h
    split
    · exact he
    · exact hs
  have onTable {k : Command} {effect : State → MasterId → Args → State × Reply} (he : ∀ m a, (effect s m a).1.leasesOk)
      (h : happening s (fun s => s.takeDelivered k fun s m a => tableTaken (effect s m a)) = .next t) : t.leasesOk :=
    happens (leasesOk_takeDelivered hs fun m a => leasesOk_redecideHeads (he m a)) h
  have atBlock {k : Command} {effect : State → MasterId → Args → State × Reply} (he : ∀ m a, (effect s m a).1.leasesOk)
      (h : happening s (fun s => s.takeDelivered k effect) = .next t) : t.leasesOk :=
    happens (leasesOk_takeDelivered hs he) h
  unfold exec at h
  cases c with
  | deviceReset =>
    cases h
    exact leasesOk_of_frame reset_leasesOk rfl rfl rfl
  | rstNRelease =>
    unfold execRstNRelease at h
    cases h
    split
    · exact leasesOk_of_frame hs rfl rfl rfl
    · exact hs
  | tick part => exact happens (leasesOk_tickPart hs part) h
  | expired w =>
    refine happens ?_ h
    split
    · exact leasesOk_countLease hs w
    · exact hs
  | handoff w =>
    refine happens ?_ h
    by_cases vacant : s.lease w = none
    · exact leasesOk_handOff (.of_leasesOk hs rfl rfl (by rw [← vacant]; exact (Table.put_get_self _ _).symm))
    · rw [handOff_of_idle (.inl vacant)]
      exact hs
  | claimLapsed w m =>
    refine happens ?_ h
    split
    · exact leasesOk_countClaim hs w m
    · exact hs
  | timeout i x =>
    refine happens ?_ h
    split
    · exact leasesOk_countAge hs i x
    · exact hs
  | requestFrame m f =>
    refine happens ?_ h
    split
    · exact leasesOk_of_frame (t := s.takeRequest m f) hs
    · exact hs
  | portReset m =>
    refine happens ?_ h
    split
    · exact leasesOk_stays hs (.startCleanup s m) (.startCleanup s m)
    · exact hs
  | linkDrop m =>
    have lowered : (s.lowerPort m).leasesOk := leasesOk_of_frame hs
    refine happens ?_ h
    split
    · exact leasesOk_stays lowered (.startCleanup _ m) (.startCleanup _ m)
    · exact lowered
  | masterLinkTrains m => exact happens (leasesOk_of_frame hs rfl rfl rfl) h
  | cleanupEnginePart m =>
    refine happens ?_ h
    exact leasesOk_takePart hs (leasesOk_of_frame hs)
  | cleanupNoticePart m =>
    refine happens ?_ h
    exact leasesOk_takePart hs (leasesOk_of_frame hs)
  | cleanupLeasePart m =>
    refine happens ?_ h
    exact leasesOk_takePart hs (leasesOk_cleanLeases hs m)
  | cleanupWindowPart m =>
    refine happens ?_ h
    exact leasesOk_takePart hs (leasesOk_stays hs (.cleanWindows s m))
  | cleanupTargetPart m i =>
    refine happens ?_ h
    exact leasesOk_takePart hs (leasesOk_of_frame hs)
  | steeringDecision m => exact happens (leasesOk_decideHead hs m) h
  | eventPortRead m | noticeMaskWrite m | controlPageWrite m =>
    refine happens ?_ h
    split
    · exact leasesOk_decideHead hs m
    · exact hs
  | commandTake =>
    refine happens ?_ h
    split
    · exact leasesOk_of_frame hs
    · exact hs
  | defineWindow => exact onTable (leasesOk_defineWindowEffect hs) h
  | setRoute => exact onTable (leasesOk_setRouteEffect hs) h
  | setAccess => exact onTable (leasesOk_setAccessEffect hs) h
  | enableWindow => exact onTable (leasesOk_enableWindowEffect hs) h
  | disableWindow => exact onTable (leasesOk_disableWindowEffect hs) h
  | retireWindow => exact onTable (leasesOk_retireWindowEffect hs) h
  | windowRetired w => exact happens (leasesOk_stays (t := s.finishRetirement w) hs (.finishRetirement s w)) h
  | setDefault =>
    refine onTable (fun m a => ?_) h
    unfold setDefaultEffect
    split <;> exact leasesOk_of_frame hs rfl rfl rfl
  | queryWindow =>
    refine onTable (fun m a => ?_) h
    unfold queryWindowEffect
    split <;> exact hs
  | claim => exact atBlock (leasesOk_claimEffect hs) h
  | renew => exact atBlock (leasesOk_renewEffect hs) h
  | release => exact atBlock (leasesOk_releaseEffect hs) h
  | withdraw => exact atBlock (leasesOk_withdrawEffect hs) h
  | revoke => exact atBlock (leasesOk_revokeEffect hs) h
  | setTick =>
    refine atBlock (fun m a => ?_) h
    unfold setTickEffect
    split <;> exact leasesOk_of_frame hs rfl rfl rfl
  | setTarget =>
    refine atBlock (fun m a => ?_) h
    unfold setTargetEffect refuseTarget
    (repeat' split) <;> exact leasesOk_of_frame hs rfl rfl rfl
  | queryTarget => exact atBlock (fun m a => leasesOk_stays hs (.queryTargetEffect s m a) (.queryTargetEffect s m a)) h
  | fenceTarget => exact atBlock (fun m a => leasesOk_stays hs (.fenceEffect s m a) (.fenceEffect s m a)) h
  | unfenceTarget => exact atBlock (fun m a => leasesOk_stays hs (.unfenceEffect s m a) (.unfenceEffect s m a)) h
  | fenceDone i => exact happens (leasesOk_of_frame hs) h
  | xidGrant i => exact happens (leasesOk_stays (t := s.xidGrant i) hs (.xidGrant s i)) h
  | mirrorXidGrant i => exact happens (leasesOk_stays (t := s.mirrorXidGrant i) hs (.mirrorXidGrant s i)) h
  | targetCompletion i f =>
    refine happens ?_ h
    split
    · exact leasesOk_stays hs (.takeAnswer s i f) (.takeAnswer s i f)
    · exact hs
  | targetLinkDown i =>
    refine happens ?_ h
    split
    · exact leasesOk_stays hs (.linkDown s i) (.linkDown s i)
    · exact hs
  | targetLinkTrains i => exact happens (leasesOk_of_frame hs) h

theorem step_leasesOk (hs : s.leasesOk) (h : step s = .next t) : t.leasesOk := by
  unfold step at h
  split at h
  · next c rest _ => exact exec_leasesOk (s := { s with pending := rest }) (leasesOk_of_frame hs rfl rfl rfl) h
  · unfold idle happening at h
    cases h
    split
    · dsimp only
      split
      · exact leasesOk_tickPart hs _
      · unfold State.refclk
        split <;> exact leasesOk_of_frame hs rfl rfl rfl
    · exact hs

/-- Settles O52: every command keeps the lease rules, and so does an idle step. -/
theorem everyStepKeepsTheLeasesLegal : Obligations.EveryStepKeepsTheLeasesLegal := by
  unfold Obligations.EveryStepKeepsTheLeasesLegal
  exact fun s t => step_leasesOk

end Sys2Proof.Machine
end

section
/-! LeaseCommands: what the lease manager answers and does for each lease command, and its countdowns (O6, O7, O11 to O14). -/

namespace Sys2Proof.Machine

-- One proof after the other, as in the tests: together they would take too many threads, and their stacks too much memory.
set_option Elab.async false

variable {s : State} {w : WindowId} {m : MasterId} {a : Args} {kind : LeaseKind}

theorem holder_of_lease {l : Lease} (h : s.lease w = some l) : s.holder w = some l.holder := by
  rw [State.holder, h, Option.map_some]

theorem holder_eq_none_iff : s.holder w = none ↔ s.lease w = none := Option.map_eq_none_iff

/-! ### CLAIM (R48, R65) -/

/-- The checks of a CLAIM that come before the ones for its holder and its queue (R48, checks 1 to 4). -/
structure ClaimPasses (s : State) (a : Args) (w : WindowId) (kind : LeaseKind) : Prop where
  window : argNat a 0 = w.val
  kind : argNat a 1 = kind.code
  positive : 1 ≤ argNat a 2
  bounded : argNat a 2 ≤ 4095
  warning : argNat a 4 < argNat a 2
  wait : argNat a 3 ≤ 4095
  state : (s.window w).state = .defined ∨ (s.window w).state = .active
  policy : (s.window w).policy ≠ .none

theorem claimFieldsOk_of_bounds {d l n : Nat} (h1 : 1 ≤ d) (h2 : d ≤ 4095) (h3 : n < d) (h4 : l ≤ 4095) :
    claimFieldsOk d l n = true := by
  simp only [claimFieldsOk, Bool.and_eq_true, decide_eq_true_eq]
  simp only [Config.maxDuration, Config.maxWarnAt, Config.noWaitLimit]
  omega

/-- A CLAIM that passes its first checks is decided by the window's holder and the caller's own waiting claim. -/
theorem claimEffect_passed (h : ClaimPasses s a w kind) (m : MasterId) :
    claimEffect s m a =
      if s.holder w = some m then refusedWith s .held
      else if (s.claimOf w m).isSome then refusedWith s .duplicate
      else if s.holder w = none then
        (s.setLease w (some (freshLease m kind (argNat a 2) (argNat a 4))), ⟨.granted, [w.val, argNat a 2]⟩)
      else s.joinQueue m w kind (argNat a 2) (argNat a 3) (argNat a 4) := by
  obtain ⟨hw, hk, h1, h2, h3, h4, hs, hp⟩ := h
  unfold claimEffect
  rw [argFin_eq_some w hw]
  dsimp only
  rw [argLeaseKind_code kind hk]
  dsimp only
  rw [claimFieldsOk_of_bounds h1 h2 h3 h4, takesClaims_of hs, if_neg (by simp), if_neg (by simp), if_neg hp]

/-- Settles O11: nothing stands between an unheld window and a caller who does not wait for it. -/
theorem claimGrantedAtOnce : Obligations.ClaimGrantedAtOnce := by
  unfold Obligations.ClaimGrantedAtOnce
  intro s m a w kind h hw hk h1 h2 h3 h4 hs hp hl hn
  have unheld : s.holder w = none := holder_eq_none_iff.mpr hl
  refine exec_atBlock rfl h ?_
  rw [claimEffect_passed ⟨hw, hk, h1, h2, h3, h4, hs, hp⟩, claimOf_eq_none hn, unheld]
  rfl

theorem claimOf_isSome (h : ∃ c ∈ s.claims, c.window = w ∧ c.claimant = m) : (s.claimOf w m).isSome = true := by
  obtain ⟨c, hc, hw, hm⟩ := h
  exact List.find?_isSome.mpr ⟨c, hc, by simp [WaitingClaim.isFor, hw, hm]⟩

/-- Settles O12: the checks of R48 and R65 for a held window, in their order. -/
theorem claimOfAHeldWindow : Obligations.ClaimOfAHeldWindow := by
  unfold Obligations.ClaimOfAHeldWindow
  intro s m a w kind l h hw hk h1 h2 h3 h4 hs hp hl
  have effect := claimEffect_passed ⟨hw, hk, h1, h2, h3, h4, hs, hp⟩ m
  rw [holder_of_lease hl] at effect
  refine ⟨fun hm => exec_atBlock rfl h ?_, fun hm hc => exec_atBlock rfl h ?_, fun hm hn => ?_⟩
  · rw [effect, if_pos (congrArg some hm)]
    rfl
  · rw [effect, if_neg (by simpa using hm), if_pos (claimOf_isSome hc)]
    rfl
  · rw [if_neg (by simpa using hm), claimOf_eq_none hn, if_neg (by simp), if_neg (by simp)] at effect
    refine ⟨fun hz => exec_atBlock rfl h ?_, fun hz hf => exec_atBlock rfl h ?_, fun hz hf => exec_atBlock rfl h ?_⟩
    · rw [effect, State.joinQueue, if_pos hz]
      rfl
    · rw [effect, State.joinQueue, if_neg hz, if_pos (show Config.poolSlots ≤ _ from hf)]
      rfl
    · rw [effect, State.joinQueue, if_neg hz, if_neg (show ¬Config.poolSlots ≤ _ from Nat.not_le.mpr hf)]
      rfl

/-! ### RENEW (R53, R54) -/

/-- A RENEW by the holder, its duration in range. -/
theorem renewEffect_holder {l : Lease} (hw : argNat a 0 = w.val) (hd : argNat a 1 ≤ 4095) (hl : s.lease w = some l)
    (hm : l.holder = m) :
    renewEffect s m a =
      if argNat a 1 ≠ 0 ∧ argNat a 1 ≤ l.warnAt then refusedWith s .badField
      else if s.ceilingRefuses w l then refusedWith s .ceiling
      else (s.setLease w (some (l.renewed (argNat a 1))),
        ⟨.ok, [(l.renewed (argNat a 1)).remaining, (l.renewed (argNat a 1)).renewals]⟩) := by
  unfold renewEffect
  rw [argFin_eq_some w hw]
  dsimp only
  rw [if_neg (show ¬Config.maxDuration < _ from Nat.not_lt.mpr hd), hl]
  dsimp only
  rw [if_neg (not_not.mpr hm)]

theorem renewEffect_notHolder (hw : argNat a 0 = w.val) (hd : argNat a 1 ≤ 4095) (hm : s.holder w ≠ some m) :
    renewEffect s m a = refusedWith s .notHolder := by
  unfold renewEffect
  rw [argFin_eq_some w hw]
  dsimp only
  rw [if_neg (show ¬Config.maxDuration < _ from Nat.not_lt.mpr hd)]
  split
  · rfl
  · next l hl => exact if_pos fun e => hm (by rw [holder_of_lease hl, e])

/-- The ceiling refuses a renewal while a claim waits and the renewals have reached it (R53, R54). -/
theorem ceilingRefuses_iff (s : State) (w : WindowId) (l : Lease) :
    s.ceilingRefuses w l = true ↔ s.queueOf w ≠ [] ∧ (s.window w).ceiling ≠ 0 ∧ (s.window w).ceiling ≤ l.renewals := by
  simp [State.ceilingRefuses, and_assoc]

/-- Settles O13: the checks of RENEW in their order, and the renewed lease. -/
theorem renewExtendsTheLease : Obligations.RenewExtendsTheLease := by
  unfold Obligations.RenewExtendsTheLease
  rintro s m a w d h hw rfl
  refine ⟨fun hd => exec_atBlock rfl h ?_, fun hd hm => exec_atBlock rfl h (renewEffect_notHolder hw hd hm),
    fun l hd hl hm h1 hn => exec_atBlock rfl h ?_, fun l hd hl hm hn => ⟨fun hq hz hc => exec_atBlock rfl h ?_, fun hc => ?_⟩⟩
  · unfold renewEffect
    rw [argFin_eq_some w hw]
    exact if_pos hd
  · rw [renewEffect_holder hw hd hl hm, if_pos ⟨Nat.one_le_iff_ne_zero.mp h1, hn⟩]
    rfl
  · rw [renewEffect_holder hw hd hl hm, if_neg (by omega), if_pos ((ceilingRefuses_iff s w l).mpr ⟨hq, hz, hc⟩)]
    rfl
  · have free : ¬s.ceilingRefuses w l = true := by
      rw [ceilingRefuses_iff]
      rintro ⟨hq, hz, hr⟩
      rcases hc with hc | hc | hc
      · exact hq hc
      · exact hz hc
      · omega
    refine exec_atBlock rfl h ?_
    rw [renewEffect_holder hw hd hl hm, if_neg (by omega), if_neg free]
    rfl

/-! ### RELEASE, REVOKE, WITHDRAW and HANDOFF (R55, R56, R58, R70, R71) -/

/-- The window handed on by the end of a lease belongs to the oldest claimant. -/
theorem endLease_holder {k : WaitingClaim} {rest : List WaitingClaim} (hq : s.queueOf w = k :: rest) :
    (s.endLease w).holder w = some k.claimant := by
  rw [endLease_of_cons hq]
  simp [State.holder, WaitingClaim.lease, freshLease]

theorem releaseEffect_holder (hw : argNat a 0 = w.val) (hm : s.holder w = some m) :
    releaseEffect s m a = (s.endLease w, ⟨.ok, [masterField ((s.endLease w).holder w)]⟩) := by
  unfold releaseEffect
  rw [argFin_eq_some w hw]
  exact if_neg (not_not.mpr hm)

theorem revokeEffect_held {l : Lease} (hw : argNat a 0 = w.val) (hl : s.lease w = some l) :
    revokeEffect s m a = (((s.setLease w none).post l.holder (.revoked w m)).handOff w, ⟨.ok, []⟩) := by
  unfold revokeEffect
  rw [argFin_eq_some w hw]
  dsimp only
  rw [holder_of_lease hl]

/-- A lease that ends with a notice: on a window that nobody waits for nothing more happens. -/
theorem handOff_posted_nil (hq : s.queueOf w = []) (h : MasterId) (b : NoticeBody) :
    ((s.setLease w none).post h b).handOff w = (s.setLease w none).post h b :=
  handOff_of_idle (.inr (by simpa using hq))

/-- A lease that ends with a notice: the window goes to the oldest waiting claim. -/
theorem handOff_posted_cons {k : WaitingClaim} {rest : List WaitingClaim} (hq : s.queueOf w = k :: rest) (h : MasterId)
    (b : NoticeBody) :
    ((s.setLease w none).post h b).handOff w =
      ((((s.setLease w none).post h b).setClaims (s.claims.eraseP fun d => decide (d.window = w))).setLease w
        (some k.lease)).post k.claimant (.granted w k.duration) := by
  rw [handOff_of_cons (k := k) (rest := rest) (by simp) (by simpa using hq)]
  simp only [State.post_frame, State.setLease_claims]

/-- The first claim that is a master's for a window leaves the pool. -/
theorem withdrawEffect_waiting {before after : List WaitingClaim} {c : WaitingClaim} (hw : argNat a 0 = w.val)
    (hs : s.claims = before ++ c :: after) (hb : ∀ d ∈ before, d.isFor w m = false) (hc : c.isFor w m = true) :
    withdrawEffect s m a = (s.setClaims (before ++ after), ⟨.ok, []⟩) := by
  unfold withdrawEffect
  rw [argFin_eq_some w hw]
  dsimp only
  rw [claimOf_split hs hb hc, removeClaim_split hs hb hc]
  rfl

theorem withdrawEffect_notWaiting (hw : argNat a 0 = w.val) (hn : ∀ c ∈ s.claims, c.isFor w m = false) :
    withdrawEffect s m a = refusedWith s .notWaiting := by
  have none : s.claimOf w m = none := List.find?_eq_none.mpr fun c hc => by simp [hn c hc]
  unfold withdrawEffect
  rw [argFin_eq_some w hw]
  dsimp only
  rw [none]
  rfl

theorem exec_handoff (hr : s.rstN = .released) (w : WindowId) : exec (.handoff w) s = .next (s.handOff w) :=
  happening_released (fun s => s.handOff w) hr

/-- Settles O14: each end of a lease by the shape of the window's queue, and the withdrawal by the place of the claim. -/
theorem releaseRevokeWithdrawAndHandoff : Obligations.ReleaseRevokeWithdrawAndHandoff := by
  unfold Obligations.ReleaseRevokeWithdrawAndHandoff
  refine ⟨fun s m a w hw => ⟨fun h => ⟨fun hm => exec_atBlock rfl h ?_, fun hm hq => exec_atBlock rfl h ?_,
    fun k rest hm hq => exec_atBlock rfl h ?_⟩, fun h => ⟨fun hl => exec_atBlock rfl h ?_, fun l hl hq => exec_atBlock rfl h ?_,
    fun l k rest hl hq => exec_atBlock rfl h ?_⟩⟩, fun s w => ⟨fun m a h hw => ⟨fun hn => exec_atBlock rfl h ?_,
    fun before c after hs hb hc => exec_atBlock rfl h (withdrawEffect_waiting hw hs hb hc)⟩, fun hr => ⟨fun hi => ?_,
    fun k rest hl hq => ?_⟩⟩⟩
  · unfold releaseEffect
    rw [argFin_eq_some w hw]
    exact if_pos hm
  · rw [releaseEffect_holder hw hm, endLease_of_nil hq]
    simp [State.holder, masterField]
  · rw [releaseEffect_holder hw hm, endLease_holder hq, endLease_of_cons hq]
    rfl
  · unfold revokeEffect
    rw [argFin_eq_some w hw]
    dsimp only
    rw [holder_eq_none_iff.mpr hl]
    rfl
  · rw [revokeEffect_held hw hl, handOff_posted_nil hq]
  · rw [revokeEffect_held hw hl, handOff_posted_cons hq]
    rfl
  · rw [withdrawEffect_notWaiting hw hn]
    rfl
  · rw [exec_handoff hr, handOff_of_idle hi]
  · rw [exec_handoff hr, handOff_of_cons hl hq]
    rfl

/-! ### Countdowns (R50, R51, R89) -/

theorem exec_tickLease (hr : s.rstN = .released) (w : WindowId) : exec (.tick (.lease w)) s = .next (s.countLease w) :=
  happening_released (fun s => s.tickPart (.lease w)) hr

theorem exec_tickAge (hr : s.rstN = .released) (i : TargetId) (x : Xid) :
    exec (.tick (.age i x)) s = .next (s.countAge i x) :=
  happening_released (fun s => s.tickPart (.age i x)) hr

theorem exec_expired_due (hr : s.rstN = .released) (h : s.expiryDue w = true) :
    exec (.expired w) s = .next (s.countLease w) :=
  (happening_released (fun s => if s.expiryDue w then s.countLease w else s) hr).trans (congrArg Host.Outcome.next (if_pos h))

/-- A countdown that is owed, by what it leaves of the lease's time. -/
theorem countLease_owed {l : Lease} (hl : s.lease w = some l) (ho : l.owed = true) :
    s.countLease w =
      let counted := s.setLease w (some l.countDown)
      let told :=
        if l.warns (l.remaining - 1) then counted.post l.holder (.leaseWarning w (l.remaining - 1)) else counted
      if l.remaining - 1 = 0 then told.expireLease w l.holder else told := by
  unfold State.countLease
  rw [hl]
  exact if_pos ho

theorem Lease.warns_iff (l : Lease) (n : Nat) : l.warns n = true ↔ n = l.warnAt ∧ l.warnAt ≠ 0 ∧ l.warned = false := by
  simp [Lease.warns, and_assoc]

/-- No warning is due at 0. -/
theorem Lease.warns_zero (l : Lease) : l.warns 0 = false := by
  rw [Bool.eq_false_iff, ne_eq, Lease.warns_iff]
  rintro ⟨e, hn, -⟩
  exact hn e.symm

/-- The countdown to 0 is the expiry. -/
theorem countLease_expires {l : Lease} (hl : s.lease w = some l) (ho : l.owed = true) (h1 : l.remaining - 1 = 0) :
    s.countLease w = ((s.setLease w none).post l.holder (.expired w)).handOff w := by
  rw [countLease_owed hl ho, h1]
  simp [Lease.warns_zero, State.expireLease]

/-- A countdown that owes a count and does not time out raises the record's age alone. -/
theorem countAge_runs {i : TargetId} {x : Xid} {r : OutRecord} (hr : (s.target i).record x = some r) (ho : r.owed = true)
    (ht : r.timesOut (s.target i).timeout = false) :
    s.countAge i x = s.setTarget i { s.target i with records := (s.target i).records.put x (some r.count) } := by
  unfold State.countAge
  rw [hr]
  dsimp only
  rw [if_pos ho, ht, if_neg (by simp)]

/-- Settles O6: a countdown that leaves time, with and without its warning, and a count that does not reach the timeout. -/
theorem countdownsThatEndNothing : Obligations.CountdownsThatEndNothing := by
  unfold Obligations.CountdownsThatEndNothing
  intro s hr
  refine ⟨fun w l hl => ⟨fun ho => ?_, fun ho h2 hq => ?_, fun ho h2 ha hz hw => ?_⟩,
    fun i x r hx => ⟨fun ho => ?_, fun ho ht => ?_⟩⟩
  · rw [exec_tickLease hr, countLease_settled (by simpa [hl] using ho)]
  · have quiet : l.warns (l.remaining - 1) = false := by
      rw [Bool.eq_false_iff, ne_eq, Lease.warns_iff]
      rintro ⟨ha, hz, hw⟩
      rcases hq with h | h | h
      · exact h ha
      · exact hz h
      · simp [hw] at h
    rw [exec_tickLease hr, countLease_owed hl ho]
    simp [quiet, Lease.countDown, show l.remaining - 1 ≠ 0 by omega]
  · have warns : l.warns (l.remaining - 1) = true := l.warns_iff _ |>.mpr ⟨ha, hz, hw⟩
    rw [exec_tickLease hr, countLease_owed hl ho]
    simp [warns, Lease.countDown, show l.remaining - 1 ≠ 0 by omega]
  · rw [exec_tickAge hr, countAge_settled (by simpa [hx] using ho)]
  · have runs : r.timesOut (s.target i).timeout = false := by
      rw [Bool.eq_false_iff, OutRecord.timesOut, ne_eq, Bool.and_eq_true, decide_eq_true_eq, decide_eq_true_eq]
      rintro ⟨hz, hn⟩
      exact ht.elim hz (Nat.not_lt.mpr hn)
    rw [exec_tickAge hr, countAge_runs hx ho runs]
    rfl

/-- Settles O7: both rows take the countdown, and the countdown to 0 is the expiry with its handoff. -/
theorem expiryHandsTheWindowOn : Obligations.ExpiryHandsTheWindowOn := by
  unfold Obligations.ExpiryHandsTheWindowOn
  intro s w l c hr hl ho h1 hc
  have taken : exec c s = .next (((s.setLease w none).post l.holder (.expired w)).handOff w) := by
    rw [← countLease_expires hl ho (by rw [h1])]
    rcases hc with rfl | rfl
    · exact exec_expired_due hr (by simp [State.expiryDue, hl, ho, h1])
    · exact exec_tickLease hr w
  refine ⟨fun hq => ?_, fun k rest hq => ?_⟩
  · rw [taken, handOff_posted_nil hq]
  · rw [taken, handOff_posted_cons hq]
    rfl

end Sys2Proof.Machine
end

section
/-! Takes: which slot the engine takes next, and what becomes of its command (O33). -/

namespace Sys2Proof.Machine

-- One proof after the other, as in the tests: together they would take too many threads, and their stacks too much memory.
set_option Elab.async false

variable {s : State} {m : MasterId} {c : Command}

/-! ### Permission (R128) -/

/-- The class check permits the holder of the right everything, everyone what is open to any, and a fence while nobody holds the
right. -/
theorem classCheck_eq_none_iff (setup : SetupRight) (m : MasterId) (k : CommandClass) :
    classCheck setup m k = none ↔ setup = .held m ∨ k = .any ∨ (k = .fence ∧ (setup = .open ∨ setup = .closed)) := by
  cases k <;> cases setup <;> simp [classCheck]

theorem classCheck_closed (hs : s.engine.setup = .closed) : classCheck s.engine.setup m .setup = some .setupClosed := by
  rw [hs]
  rfl

theorem classCheck_otherHolder {h : MasterId} (hm : h ≠ m) (hs : s.engine.setup = .held h) :
    classCheck s.engine.setup m .fence = some .notSetup := by
  simp only [classCheck, hs, if_neg hm]

/-- A right that is neither CLOSED nor the caller's is OPEN or another master's. -/
theorem setup_elsewhere (hc : s.engine.setup ≠ .closed) (hm : s.engine.setup ≠ .held m) :
    s.engine.setup = .open ∨ ∃ h : MasterId, h ≠ m ∧ s.engine.setup = .held h := by
  match hs : s.engine.setup with
  | .open => exact .inl rfl
  | .held h => exact .inr ⟨h, fun e => hm (by rw [hs, e]), rfl⟩
  | .closed => exact absurd hs hc

/-! ### The slots that may be taken while a cleanup is under way (R59, R120, R135, R158, log 12) -/

theorem droppedAtCleanup_eq_false_iff (c : Command) :
    c.droppedAtCleanup = false ↔
      c ∉ ([.claim, .renew, .release, .withdraw, .revoke, .retireWindow, .queryWindow, .fenceTarget] : List Command) := by
  cases c <;> decide

/-- The blocks that still have their part of the cleanup to take are the ones a command that is not dropped waits for. -/
theorem owners_left_iff (hd : c.droppedAtCleanup = false) (a : Args) (left : List CleanupBlock) :
    (∀ b ∈ c.owners a, (CleanupState.underWay left).hasTaken b = false) ↔
      (c ∈ ([.defineWindow, .setRoute, .setAccess, .enableWindow, .disableWindow, .setDefault] : List Command) →
        .windows ∈ left) ∧
      ∀ t : TargetId, c ∈ ([.setTarget, .queryTarget, .unfenceTarget] : List Command) → argNat a 0 = t.val →
        .target t ∈ left := by
  have taken (b : CleanupBlock) : (CleanupState.underWay left).hasTaken b = false ↔ b ∈ left := by
    simp [CleanupState.hasTaken]
  simp only [taken, mem_owners]
  constructor
  · intro h
    exact ⟨fun hc => h .windows (.inl ⟨rfl, by simp only [List.mem_cons] at hc ⊢; tauto⟩),
      fun t hc ha => h (.target t) (.inr (.inr ⟨t, rfl, ha, by simp only [List.mem_cons] at hc ⊢; tauto⟩))⟩
  · rintro ⟨windows, targets⟩ b (⟨rfl, hc⟩ | ⟨rfl, hc⟩ | ⟨t, rfl, ha, hc⟩)
    · refine windows ?_
      cases c <;> simp_all [Command.droppedAtCleanup]
    · cases c <;> simp_all [Command.droppedAtCleanup]
    · refine targets t ?_ ha
      cases c <;> simp_all [Command.droppedAtCleanup]

theorem takeable_of_unnamed (h : commandOf (s.slot m).code = none) : s.takeable m = decide ((s.slot m).state = .pending) := by
  simp [State.takeable, State.dropped, h]

/-! ### The turn (R132) -/

theorem nextTake_none (h : s.engine.underWay ≠ none ∨ ∀ m, s.takeable m = false) : s.nextTake = none := by
  unfold State.nextTake
  split
  · next hu =>
    have idle : ∀ m, s.takeable m = false := h.resolve_left (by simpa using hu)
    exact List.find?_eq_none.mpr fun m _ => by simp [idle m]
  · rfl

theorem commandTake_none (hr : s.rstN = .released) (h : s.nextTake = none) : exec .commandTake s = .next s := by
  simp [exec, execCommandTake, happening_released _ hr, h]

theorem takeSlot_unnamed (h : commandOf (s.slot m).code = none) :
    s.takeSlot m = s.served m s.engine.setup .badCommand [] := by
  unfold State.takeSlot
  simp only [h]
  rfl

/-- Settles O33: which slots may be taken, whose turn it is, and the take by the command's code and class. -/
theorem commandTakeServesInTurn : Obligations.CommandTakeServesInTurn := by
  unfold Obligations.CommandTakeServesInTurn
  refine fun s => ⟨fun hr h => commandTake_none hr (nextTake_none h), fun m => ?_, fun m hu hm least => ?_, fun m hr hn =>
    ⟨fun hc => ?_, fun c hc => ⟨fun hp hs => ?_, fun hp h1 h2 => ?_, fun h hm hp hs => ?_, fun ho hs => ?_⟩⟩⟩
  · cases hc : commandOf (s.slot m).code with
    | none => simp [takeable_of_unnamed hc]
    | some c =>
      cases hp : (s.port m).cleanup with
      | clear => simp [takeable_of_clear m hp]
      | underWay left =>
        rw [takeable_of_cleanup (by simp [hp]) hc, hp]
        simp only [CleanupState.underWay.injEq, Option.some.injEq, forall_eq']
        refine and_congr_right fun _ => ?_
        rw [← droppedAtCleanup_eq_false_iff, ← classCheck_eq_none_iff]
        exact and_congr_right fun hd => imp_congr_right fun _ => owners_left_iff hd _ left
  · unfold State.nextTake
    rw [hu]
    exact find?_turnOrder s.engine.lastServed m s.takeable hm least
  · rw [commandTake_next hr hn, takeSlot_unnamed hc]
  · rw [commandTake_next hr hn, takeSlot_refused hc (hp ▸ classCheck_closed hs), hs]
  · rw [commandTake_next hr hn, takeSlot_refused hc (hp ▸ classCheck_notSetup (setup_elsewhere h1 h2))]
  · rw [commandTake_next hr hn, takeSlot_refused hc (hp ▸ classCheck_otherHolder hm hs), hs]
  · rw [commandTake_next hr hn, takeSlot_delivered hc ((classCheck_eq_none_iff _ m _).mpr hs) ho]

end Sys2Proof.Machine
end

section
/-! Ticks: the emission of a tick, its arrivals, what is still owed when it arrives, the idle steps and the reset pin
(O2, O4, O5). -/

namespace Sys2Proof.Machine

-- One proof after the other, as in the tests: together they would take too many threads, and their stacks too much memory.
set_option Elab.async false

variable {s t : State} {w w' : WindowId} {m : MasterId} {i : TargetId} {x : Xid}

/-! ### The reset pin (R42, R161, log 8) -/

/-- Settles O4: every command but a device reset and the release is a happening, which an asserted pin lets nothing come of. -/
theorem resetPinHoldsThePart : Obligations.ResetPinHoldsThePart := by
  unfold Obligations.ResetPinHoldsThePart
  refine fun s => ⟨fun hp => ⟨fun c hd hr => ?_, happening_asserted _ hp⟩, fun hp => ?_, fun hp => ?_⟩
  · unfold exec
    cases c with
    | deviceReset => exact absurd rfl hd
    | rstNRelease => exact absurd rfl hr
    | _ => exact happening_asserted _ hp
  · exact congrArg Host.Outcome.next (if_pos hp)
  · exact congrArg Host.Outcome.next (if_neg (by simp [hp]))

/-! ### Countdowns taken one after the other (log 5) -/

/-- A fold whose steps settle what they are about, and bring up nothing new to settle, settles the whole list. -/
theorem foldl_settles {σ α : Type} {Keeps : σ → Prop} {owes : σ → α → Prop} {f : σ → α → σ}
    (keeps : ∀ s a, Keeps s → Keeps (f s a)) (settles : ∀ s a k, Keeps s → owes (f s a) k → k ≠ a ∧ owes s k) (l : List α)
    (s : σ) (hs : Keeps s) {k : α} (hk : owes (l.foldl f s) k) : k ∉ l ∧ owes s k := by
  induction l generalizing s with
  | nil => exact ⟨List.not_mem_nil, hk⟩
  | cons a l ih =>
    obtain ⟨hl, ho⟩ := ih (f s a) (keeps s a hs) hk
    obtain ⟨ha, ho⟩ := settles s a k hs ho
    exact ⟨fun h => (List.mem_cons.mp h).elim ha hl, ho⟩

/-! ### The leases (R50, R51) -/

/-- The lease on a window owes a countdown. -/
def State.owesLease (s : State) (w : WindowId) : Prop := ∃ l, s.lease w = some l ∧ l.owed = true

/-- A handoff makes a lease that owes nothing (R58). -/
theorem owesLease_of_handOff (h : (s.handOff w).owesLease w') : s.owesLease w' := by
  by_cases idle : s.lease w ≠ none ∨ s.queueOf w = []
  · rwa [handOff_of_idle idle] at h
  · obtain ⟨hl, hq⟩ := not_or.mp idle
    obtain ⟨k, rest, hq⟩ := List.exists_cons_of_ne_nil hq
    rw [handOff_of_cons (not_not.mp hl) hq] at h
    obtain ⟨l, hw, ho⟩ := h
    simp only [State.post_frame, State.setLease_lease, State.setClaims_lease] at hw
    split at hw
    · cases hw
      cases ho
    · exact ⟨l, hw, ho⟩

/-- After its countdown a lease owes none, and no other lease has come to owe one. -/
theorem owesLease_of_countLease (h : (s.countLease w).owesLease w') : w' ≠ w ∧ s.owesLease w' := by
  have replaced {l : Option Lease} (u : State) (hu : u.leases = s.leases.put w l) (hl : ∀ k ∈ l, k.owed = false)
      (h : u.owesLease w') : w' ≠ w ∧ s.owesLease w' := by
    obtain ⟨k, hk, ho⟩ := h
    simp only [State.lease, hu, Table.get_put] at hk
    split at hk
    · exact absurd ((hl k hk).symm.trans ho) nofun
    · next e => exact ⟨Ne.symm e, k, hk, ho⟩
  by_cases owed : s.owesLease w
  · obtain ⟨l, hl, ho⟩ := owed
    by_cases hz : l.remaining - 1 = 0
    · rw [countLease_expires hl ho hz] at h
      exact replaced (l := none) _ (by simp) (by simp) (owesLease_of_handOff h)
    · rw [countLease_owed hl ho] at h
      dsimp only at h
      rw [if_neg hz] at h
      refine replaced (l := some l.countDown) _ ?_ (by simp [Lease.countDown]) h
      split <;> simp
  · have still : s.countLease w = s := countLease_settled fun l hl => by
      rw [Bool.eq_false_iff]
      exact fun ho => owed ⟨l, hl, ho⟩
    rw [still] at h
    exact ⟨fun e => owed (e ▸ h), h⟩

theorem handOff_claims_sublist (s : State) (w : WindowId) : (s.handOff w).claims.Sublist s.claims := by
  unfold State.handOff
  split
  · simpa using List.eraseP_sublist
  · exact List.Sublist.refl _

theorem countLease_claims_sublist (s : State) (w : WindowId) : (s.countLease w).claims.Sublist s.claims := by
  unfold State.countLease
  split
  · exact List.Sublist.refl _
  · split
    · dsimp only
      split
      · refine (handOff_claims_sublist _ w).trans ?_
        split <;> simp
      · split <;> simp
    · exact List.Sublist.refl _

/-! ### The waiting claims (R68) -/

/-- What the countdown of a master's claim for a window leaves of the pool: its other claims as they were, and of the claim
counted, if it stays, one that owes nothing. -/
theorem countClaim_claims (ha : s.claims.Pairwise WaitingClaim.apart) (w : WindowId) (m : MasterId) :
    (s.countClaim w m).claims.Pairwise WaitingClaim.apart ∧
      ∀ c ∈ (s.countClaim w m).claims, c.owed = true → c.isFor w m = false ∧ c ∈ s.claims := by
  cases hc : s.claimOf w m with
  | none =>
    have still : s.countClaim w m = s := by simp only [State.countClaim, hc]
    rw [still]
    exact ⟨ha, fun c hm _ => ⟨by simpa using List.find?_eq_none.mp hc c hm, hm⟩⟩
  | some d =>
    obtain ⟨before, after, hs, hf, alone⟩ := claimOf_alone ha hc
    have others {c : WaitingClaim} (hm : c ∈ before ++ after) : c.isFor w m = false ∧ c ∈ s.claims :=
      ⟨alone c hm, hs ▸ ((List.sublist_cons_self d after).append_left before).subset hm⟩
    have middle {d' c : WaitingClaim} (hd : d'.owed = false) (hm : c ∈ before ++ d' :: after) (ho : c.owed = true) :
        c.isFor w m = false ∧ c ∈ s.claims := by
      rw [List.mem_append, List.mem_cons] at hm
      rcases hm with hm | rfl | hm
      · exact others (List.mem_append_left _ hm)
      · exact absurd (hd.symm.trans ho) nofun
      · exact others (List.mem_append_right _ hm)
    by_cases ho : d.owed = true
    · by_cases hz : d.waitRemaining.map (· - 1) = some 0
      · rw [countClaim_lapses hs (List.forall_mem_append.mp alone).1 hf ho hz]
        simp only [State.post_frame, State.setClaims_claims]
        exact ⟨(hs ▸ ha).sublist ((List.sublist_cons_self d after).append_left before), fun c hm _ => others hm⟩
      · rw [countClaim_runs hs alone hf ho hz, State.setClaims_claims]
        rw [hs] at ha
        exact ⟨by simpa [List.pairwise_append, WaitingClaim.apart] using ha, fun c => middle rfl⟩
    · have still : s.countClaim w m = s := by simp only [State.countClaim, hc, ho, Bool.false_eq_true, if_false]
      rw [still]
      exact ⟨ha, fun c hm => middle (Bool.eq_false_iff.mpr ho) (hs ▸ hm)⟩

/-- Where no two claims are alike, what the lease manager owes is settled once it is taken (R43, R64). -/
theorem takeOwedLeases_leavesNone (ha : s.claims.Pairwise WaitingClaim.apart) : s.takeOwedLeases.leasesSettled := by
  have counted : (allWindows.foldl (fun (u : State) w => u.countLease w) s).claims.Pairwise WaitingClaim.apart :=
    foldl_invariant (fun u : State => u.claims.Pairwise WaitingClaim.apart) _
      (fun u w h => h.sublist (countLease_claims_sublist u w)) allWindows s ha
  refine ⟨fun w l hl => ?_, fun c hc => ?_⟩
  · rw [Bool.eq_false_iff]
    intro ho
    have kept : s.takeOwedLeases.lease w = (allWindows.foldl (fun (u : State) w => u.countLease w) s).lease w :=
      foldl_keeps (fun u : State => u.lease w) (fun (u : State) (c : WaitingClaim) => u.countClaim c.window c.claimant)
        (fun u c => by simp) _ _
    have owes : (allWindows.foldl (fun (u : State) w => u.countLease w) s).owesLease w :=
      ⟨l, kept.symm.trans hl, ho⟩
    exact (foldl_settles (Keeps := fun _ => True) (owes := State.owesLease) (fun _ _ => id)
      (fun _ _ _ _ => owesLease_of_countLease) allWindows s trivial owes).1 (mem_allWindows w)
  · rw [Bool.eq_false_iff]
    intro ho
    obtain ⟨absent, joined, -⟩ := foldl_settles (Keeps := fun u : State => u.claims.Pairwise WaitingClaim.apart)
      (owes := fun u c => c ∈ u.claims ∧ c.owed = true) (f := fun (u : State) c => u.countClaim c.window c.claimant)
      (fun u c h => (countClaim_claims h c.window c.claimant).1)
      (fun u c k h ⟨hk, hko⟩ => by
        obtain ⟨hf, hm⟩ := (countClaim_claims h c.window c.claimant).2 k hk hko
        refine ⟨fun e => ?_, hm, hko⟩
        rw [e, WaitingClaim.isFor_own] at hf
        cases hf) _ _ counted (k := c) ⟨hc, ho⟩
    exact absent joined

/-! ### The outstanding records (R89, R90) -/

/-- The record of an xid at a target port owes a count. -/
def State.owesCount (s : State) (i : TargetId) (x : Xid) : Prop := ∃ r, (s.target i).record x = some r ∧ r.owed = true

theorem faultByThreshold_records (s : State) (i : TargetId) :
    ((s.faultByThreshold i).target i).records = (s.target i).records := by
  simp [State.faultByThreshold, State.reexamine_target, State.enterState]

theorem finishDrain_records (s : State) (i : TargetId) : ((s.finishDrain i).target i).records = (s.target i).records := by
  by_cases drained : (s.target i).state = .fencing ∧ (s.target i).outstanding = 0
  · rw [State.finishDrain_of_drained drained.1 drained.2]
    simp
  · rw [State.finishDrain, if_neg drained]

/-- A timeout takes the record of its xid away, and no other. -/
theorem endByTimeout_records {r : OutRecord} (hx : (s.target i).record x = some r) :
    ((s.endByTimeout i x).target i).records = (s.target i).records.put x none := by
  obtain ⟨ms, h⟩ := countTimeout_target hx
  have ended : (((s.endTransaction i x .timeout []).countTimeout i).target i).records = (s.target i).records.put x none := by
    rw [h]
    rfl
  unfold State.endByTimeout
  dsimp only
  split
  · rw [faultByThreshold_records, ended]
  · rw [finishDrain_records, ended]

/-- After its count a record owes none or is gone, and the port's other records are as they were. -/
theorem countAge_records {r : OutRecord} (hx : (s.target i).record x = some r) (ho : r.owed = true) :
    ∃ v : Option OutRecord, (∀ q ∈ v, q.owed = false) ∧
      ((s.countAge i x).target i).records = (s.target i).records.put x v := by
  cases ht : r.timesOut (s.target i).timeout with
  | false => exact ⟨some r.count, by simp [OutRecord.count], by rw [countAge_runs hx ho ht]; simp⟩
  | true =>
    have counted : ((s.setTarget i { s.target i with records := (s.target i).records.put x (some r.count) }).target i).record x =
        some r.count := by simp [TargetPort.record]
    refine ⟨none, nofun, ?_⟩
    unfold State.countAge
    rw [hx]
    dsimp only
    rw [if_pos ho, if_pos ht]
    unfold State.timeOut
    obtain ⟨_, same⟩ := State.SameButWaiting.redecideAfterFalls
      (State.endByTimeout (s.setTarget i { s.target i with records := (s.target i).records.put x (some r.count) }) i x)
      (s.setTarget i { s.target i with records := (s.target i).records.put x (some r.count) }) i
    rw [same]
    dsimp only
    rw [endByTimeout_records counted]
    simp

theorem owesCount_of_countAge {y : Xid} (h : (s.countAge i x).owesCount i y) : y ≠ x ∧ s.owesCount i y := by
  by_cases owed : s.owesCount i x
  · obtain ⟨r, hx, ho⟩ := owed
    obtain ⟨v, hv, records⟩ := countAge_records hx ho
    obtain ⟨q, hq, hqo⟩ := h
    simp only [TargetPort.record, records, Table.get_put] at hq
    split at hq
    · exact absurd ((hv q hq).symm.trans hqo) nofun
    · next e => exact ⟨Ne.symm e, q, hq, hqo⟩
  · have still : s.countAge i x = s := countAge_settled fun r hr => by
      rw [Bool.eq_false_iff]
      exact fun ho => owed ⟨r, hr, ho⟩
    rw [still] at h
    exact ⟨fun e => owed (e ▸ h), h⟩

/-- What a target port owes is settled once it is taken (R89). -/
theorem takeOwedTarget_leavesNone (s : State) (i : TargetId) : (s.takeOwedTarget i).targetSettled i := by
  intro x r hr
  rw [Bool.eq_false_iff]
  intro ho
  exact (foldl_settles (Keeps := fun _ => True) (owes := fun u => u.owesCount i) (f := fun (u : State) x => u.countAge i x)
    (fun _ _ => id) (fun _ _ _ _ => owesCount_of_countAge) allXids s trivial ⟨r, hr, ho⟩).1 (mem_allXids x)

/-! ### The arrival of a tick (R43, R89) -/

theorem exec_tick (hr : s.rstN = .released) (part : TickPart) : exec (.tick part) s = .next (s.tickPart part) :=
  happening_released (fun s => s.tickPart part) hr

/-- What a block still owes may as well be taken before the tick arrives, where that leaves nothing owed. -/
theorem exec_arrive_taken (hr : s.rstN = .released) {b : TickBlock} (hn : s.time.due.at b ≠ 0)
    (h : (s.takeOwedAt b).takeOwedAt b = s.takeOwedAt b) :
    exec (.tick (.arrive b)) s = exec (.tick (.arrive b)) (s.takeOwedAt b) := by
  rw [exec_tick hr, exec_tick (by simpa using hr)]
  have time : (s.takeOwedAt b).time = s.time := by simp
  simp only [State.tickPart, State.tickArrives, h, time]
  rw [if_neg hn, if_neg hn]

/-- Settles O5: the emission; at each block the arrival with and without something owed; and the single countdowns. -/
theorem tickArrivesOnceAtEveryRecord : Obligations.TickArrivesOnceAtEveryRecord := by
  unfold Obligations.TickArrivesOnceAtEveryRecord
  intro s hr due
  refine ⟨exec_tick hr .emit, fun hz => ?_, fun n hn hs => ?_, fun hn ha => ?_, exec_tickLease hr, exec_tickClaim hr,
    fun i => ⟨fun hz => ?_, fun n hn hs => ?_, fun hn => ?_, exec_tickAge hr i⟩⟩
  · rw [exec_tick hr]
    exact congrArg Host.Outcome.next (tickArrives_none hz)
  · have on : s.time.due.leases ≠ 0 := by rw [show s.time.due.leases = n + 1 from hn]; nofun
    have arrived : s.time.due.arrived .leases = ⟨n, s.time.due.targets⟩ := by
      simp only [TicksDue.arrived, show s.time.due.leases = n + 1 from hn, Nat.add_sub_cancel]
    rw [exec_tick hr, State.tickPart, tickArrives_leases on hs, arrived]
    rfl
  · have settled := takeOwedLeases_leavesNone ha
    have again : (s.takeOwedAt .leases).takeOwedAt .leases = s.takeOwedAt .leases :=
      takeOwedLeases_settled (s := s.takeOwedLeases) settled
    exact ⟨settled, (State.takeOwedLeases_frame s).2.2.2.2.1, exec_arrive_taken hr hn again⟩
  · rw [exec_tick hr]
    exact congrArg Host.Outcome.next (tickArrives_none hz)
  · have on : s.time.due.targets.get i ≠ 0 := by rw [show s.time.due.targets.get i = n + 1 from hn]; nofun
    have arrived : s.time.due.arrived (.target i) = ⟨s.time.due.leases, s.time.due.targets.put i n⟩ := by
      simp only [TicksDue.arrived, show s.time.due.targets.get i = n + 1 from hn, Nat.add_sub_cancel]
    rw [exec_tick hr, State.tickPart, tickArrives_target on hs, arrived]
    rfl
  · have settled := takeOwedTarget_leavesNone s i
    have again : (s.takeOwedAt (.target i)).takeOwedAt (.target i) = s.takeOwedAt (.target i) :=
      takeOwedTarget_settled (s := s.takeOwedTarget i) settled
    exact ⟨settled, (State.takeOwedTarget_frame s i).2.2.2.2.1, exec_arrive_taken hr hn again⟩


/-! ### The REFCLK periods (R42, log 1) -/

/-- The REFCLK periods are steps of a part with RST_N released, an empty queue, and nothing owed or on its way. -/
structure State.Quiet (s : State) : Prop where
  released : s.rstN = .released
  empty : s.pending = []
  settled : s.settled

/-- Some REFCLK periods later, with no tick among them. -/
def State.afterPeriods (s : State) (k : Nat) : State := s.setTime { s.time with prescale := s.time.prescale + k }

theorem State.Quiet.afterPeriods (h : s.Quiet) (k : Nat) : (s.afterPeriods k).Quiet := ⟨h.released, h.empty, h.settled⟩

theorem State.Quiet.step (h : s.Quiet) : step s = .next s.refclk := by
  unfold Machine.step
  rw [h.empty]
  exact idle_settled h.released h.settled

theorem State.Quiet.run_succ (h : s.Quiet) (k : Nat) :
    Host.Core.run Sys2Proof.core (k + 1) s = Host.Core.run Sys2Proof.core k s.refclk := by
  have first : Sys2Proof.core.step s = .next s.refclk := h.step
  simp only [Host.Core.run, first]

theorem refclk_runs (h : s.time.prescale + 1 < s.time.period) : s.refclk = s.afterPeriods 1 := if_pos h

theorem refclk_emits (h : s.time.period ≤ s.time.prescale + 1) : s.refclk = s.emitTick := if_neg (Nat.not_lt.mpr h)

theorem afterPeriods_add (s : State) (j k : Nat) : (s.afterPeriods j).afterPeriods k = s.afterPeriods (j + k) := by
  simp only [State.afterPeriods, State.setTime, Nat.add_assoc]

/-- While the tick period is not full each step raises the prescale count. -/
theorem State.Quiet.run_periods (h : s.Quiet) (k : Nat) (hk : s.time.prescale + k < s.time.period) :
    Host.Core.run Sys2Proof.core k s = .next (s.afterPeriods k) := by
  induction k generalizing s with
  | zero => rfl
  | succ k ih =>
    have more : s.time.prescale + 1 + k < s.time.period := by omega
    rw [h.run_succ, refclk_runs (by omega), ih (h.afterPeriods 1) more, afterPeriods_add, Nat.add_comm 1 k]

/-- The period that fills the tick period emits the tick. -/
theorem State.Quiet.run_emits (h : s.Quiet) (k : Nat) (hk : s.time.prescale + (k + 1) = s.time.period) :
    Host.Core.run Sys2Proof.core (k + 1) s = .next s.emitTick := by
  induction k generalizing s with
  | zero =>
    rw [h.run_succ, refclk_emits (Nat.le_of_eq hk.symm)]
    rfl
  | succ k ih =>
    have more : s.time.prescale + 1 + (k + 1) = s.time.period := by omega
    rw [h.run_succ, refclk_runs (by omega)]
    exact ih (h.afterPeriods 1) more

/-! ### What ticks leave due (log 1) -/

/-- A happening of TICK that takes a countdown or count that is owed. -/
def State.owesPart (s : State) (part : TickPart) : Prop :=
  (∃ w l, part = .lease w ∧ s.lease w = some l ∧ l.owed = true) ∨
    (∃ c ∈ s.claims, part = .claim c.window c.claimant ∧ c.owed = true) ∨
    ∃ t x r, part = .age t x ∧ (s.target t).record x = some r ∧ r.owed = true

theorem owesPart_of_owedPart {part : TickPart} (h : s.owedPart = some part) : s.owesPart part := by
  simp only [State.owedPart, Option.orElse_eq_some, Option.map_eq_some_iff, List.findSome?_eq_some_iff] at h
  rcases h with ⟨w, hw, rfl⟩ | ⟨-, ⟨c, hc, rfl⟩ | ⟨-, h⟩⟩
  · have owes := List.find?_some hw
    obtain ⟨l, hl, ho⟩ := (Option.any_eq_true _ _).mp owes
    exact Or.inl ⟨w, l, rfl, hl, ho⟩
  · exact Or.inr (Or.inl ⟨c, List.mem_of_find?_eq_some hc, rfl, List.find?_some hc⟩)
  · obtain ⟨-, t, -, -, ⟨x, hx, rfl⟩, -⟩ := h
    have owes := List.find?_some hx
    obtain ⟨r, hr, ho⟩ := (Option.any_eq_true _ _).mp owes
    exact Or.inr (Or.inr ⟨t, x, r, rfl, hr, ho⟩)

/-- Where no countdown or count is the next happening, none is owed at any block. -/
theorem settled_of_owedPart_none (h : s.owedPart = none) : s.leasesSettled ∧ ∀ t, s.targetSettled t := by
  simp only [State.owedPart, Option.orElse_eq_none, Option.map_eq_none_iff, List.findSome?_eq_none_iff,
    List.find?_eq_none] at h
  obtain ⟨leases, claims, records⟩ := h
  refine ⟨⟨fun w l hl => ?_, fun c hc => by simpa using claims c hc⟩, fun t x r hr => ?_⟩
  · have unowed := leases w (mem_allWindows w)
    rw [show s.lease w = some l from hl] at unowed
    simpa using unowed
  · have unowed := records t (mem_allTargets t) x (mem_allXids x)
    rw [show (s.target t).record x = some r from hr] at unowed
    simpa using unowed

theorem mem_allTickBlocks (b : TickBlock) : b ∈ allTickBlocks := by
  cases b with
  | leases => exact List.mem_cons_self
  | target t => exact List.mem_cons_of_mem _ (List.mem_map_of_mem (mem_allTargets t))

/-- Where something is owed or on its way, the next happening is one that is owed, or, where none is, an arrival. -/
theorem nextPart_of_not_settled (h : ¬s.settled) : ∃ part, s.nextPart = some part ∧
    (s.owesPart part ∨ (s.leasesSettled ∧ (∀ t, s.targetSettled t) ∧ ∃ b, part = .arrive b ∧ s.time.due.at b ≠ 0)) := by
  cases owed : s.owedPart with
  | some part => exact ⟨part, by rw [State.nextPart, owed]; rfl, Or.inl (owesPart_of_owedPart owed)⟩
  | none =>
    obtain ⟨leases, targets⟩ := settled_of_owedPart_none owed
    cases due : allTickBlocks.find? fun b => s.time.due.at b != 0 with
    | some b =>
      refine ⟨.arrive b, by rw [State.nextPart, owed, due]; rfl, Or.inr ⟨leases, targets, b, rfl, ?_⟩⟩
      simpa using List.find?_some due
    | none =>
      have arrived (b : TickBlock) : s.time.due.at b = 0 := by
        simpa using List.find?_eq_none.mp due b (mem_allTickBlocks b)
      exact absurd ⟨leases, targets, arrived .leases, fun t => arrived (.target t)⟩ h

/-- An idle step takes the next happening as TICK does. -/
theorem step_of_nextPart {part : TickPart} (hr : s.rstN = .released) (hp : s.pending = []) (h : s.nextPart = some part) :
    step s = exec (.tick part) s := by
  unfold step
  rw [hp, exec_tick hr]
  dsimp only
  rw [idle, happening_released _ hr, h]

/-- Settles O2: the REFCLK periods, by induction on those still lacking; and the next happening where one is due. -/
theorem idleRunEmitsTheTick : Obligations.IdleRunEmitsTheTick := by
  unfold Obligations.IdleRunEmitsTheTick
  refine fun s hr hp => ⟨fun hs lacking => ?_, fun hs => ?_⟩
  · have quiet : s.Quiet := ⟨hr, hp, hs⟩
    obtain ⟨k, hk⟩ := Nat.exists_eq_add_one_of_ne_zero (Nat.sub_ne_zero_of_lt lacking)
    rw [hk, exec_tick hr]
    exact ⟨quiet.run_periods, quiet.run_emits k (by omega)⟩
  · obtain ⟨part, next, due⟩ := nextPart_of_not_settled hs
    refine ⟨part, step_of_nextPart hr hp next, ?_⟩
    rcases due with (lease | claim | age) | ⟨leases, targets, b, rfl, hb⟩
    · exact Or.inl lease
    · exact Or.inr (Or.inl claim)
    · exact Or.inr (Or.inr (Or.inl age))
    · refine Or.inr (Or.inr (Or.inr ⟨leases, targets, ?_⟩))
      cases b with
      | leases => exact Or.inl ⟨rfl, hb⟩
      | target t => exact Or.inr ⟨t, rfl, hb⟩

end Sys2Proof.Machine
end
